-- ==== Sys2Proof/Word.lean ====
section
/-! DEFINITION. The widths the manual treats as bits, and the index types of its tables. -/

namespace Sys2Proof

/-- One byte of a frame body, a mark or a desk-link record. -/
abbrev Byte := BitVec 8

/-- A theatre-clock reading (R78): 32 bits, differences modulo 2^32. -/
abbrev Stamp := BitVec 32

/-- The four key bytes as one 32-bit number (02_frames, 2.2). -/
abbrev Key := BitVec 32

/-- A station number, 0 to 31 (00_scope, section 4). -/
abbrev Station := Fin 32

/-- A seat within its station, 0 to 7 (00_scope, section 4). -/
abbrev Seat := Fin 8

/-- A choice: 0 A, 1 B, 2 C, 3 D (R38). -/
abbrev Choice := Fin 4

/-- A team. The value `t` stands for the team numbered `t + 1`, so teams 1 to 7 are all there are. -/
abbrev Team := Fin 7

/-- A set of choices: bit 0 is A, bit 1 B, bit 2 C, bit 3 D (R37). -/
abbrev ChoiceSet := BitVec 4

/-- A whole number sent as one byte. -/
abbrev byteOf (n : Nat) : Byte := BitVec.ofNat 8 n

/-- A Boolean as the number 0 or 1, for a bit of a byte. -/
abbrev bitOf (b : Bool) : Nat := if b then 1 else 0

/-- Replace the entry at a position of a fixed table. -/
def putAt {α : Type} {n : Nat} (v : Vector α n) (i : Fin n) (x : α) : Vector α n :=
  v.set i.val x i.isLt

/-- Apply a function to every entry of a fixed table. -/
def onEach {α : Type} {n : Nat} (f : α → α) (v : Vector α n) : Vector α n :=
  Vector.ofFn fun i => f v[i]

end Sys2Proof
end

