-- ==== Sys2Proof/Syntax.lean ====
section
/-! DEFINITION. The commands of the block: one constructor per row of spec/opcode_table.json, in the table's
order, with what the outside decides at that step as operands. -/

namespace Sys2Proof

/-- The levels of the strap pins (R180): STN4 to STN0, TEAM2 to TEAM0, SEATS2 to SEATS0, and SPEED
(low STANDARD, high FAST). -/
structure StrapPins where
  stn   : BitVec 5
  team  : BitVec 3
  seats : BitVec 3
  speed : Bool
  deriving DecidableEq, Repr

/-- The pins as a power-up finds them (R180, R181): whether the supply is good, and the levels of the strap pins. -/
structure PowerPins where
  supplyGood : Bool
  straps     : StrapPins
  deriving DecidableEq, Repr

/-- The five keys of a seat keypad (05, 5.3). -/
inductive PadKey where
  | buzz
  | choice (c : Choice)
  deriving DecidableEq, Repr

/-- A character of the desk link as it stands on RXD or TXD, one bit for each of its ten bit times and bit 0 the
first: the start bit, the eight data bits, the stop bit (R182). -/
abbrev UartChar := BitVec 10

/-- The steps of the part. -/
inductive Instr where
  /-- POWER_UP, with the pins' levels (R181): the end of power-up where the supply is good, and a power-up that goes on
  where it is not yet good (log entry 33). -/
  | powerUp (pins : PowerPins)
  /-- RESET_ASSERT: RESET is driven active (R181). -/
  | resetAssert
  /-- RESET_RELEASE: RESET is released, with the strap pins' levels (R181). -/
  | resetRelease (pins : StrapPins)
  /-- IDLE: the line has been recessive for 2 Tc (R4, R9). -/
  | idle
  /-- START_EDGE_SEEN: a start edge from another station. `fresh` says that the edge is that of a frame begun at
  the IDLE this station measures, and was no more than half a bit time old when seen (R9). -/
  | startEdgeSeen (fresh : Bool)
  /-- QUIET_START: the further 8 Tc of DEFER have passed (R10). -/
  | quietStart
  /-- LONG_IDLE: the line has been recessive for 10 Tc (R4). -/
  | longIdle
  /-- CHARACTER_COMPLETE: a character of a frame, as read, with its framing fault (R2, R7): what `lineByte` and
  `lineFraming` read of the ten levels sampled. -/
  | characterComplete (char : Byte) (framing : Bool)
  /-- MISSING_START_BIT: no start bit where one was expected (R8). -/
  | missingStartBit
  /-- LOST: dominant read where recessive was sent in the SYNs or key (R11). -/
  | lost
  /-- DISTURBED: another level read than the one sent (R12). -/
  | disturbed
  /-- VERDICT: the veto window ends. What the rest of the line did: dominant at any moment of the fault half, of
  the busy half, and still dominant at the end (R16, R17). -/
  | verdict (faultHalf busyHalf stillDominant : Bool)
  /-- HELD_VERDICT_ACTED: the dominant level that overran the window ended before 6 Tc (R17). -/
  | heldVerdictActed
  /-- TAIL_SLOT: a tail slot's character completes, as read (R2, R19): what `lineByte` and `lineFraming` read of the
  ten levels sampled. -/
  | tailSlot (char : Byte) (framing : Bool)
  /-- TAIL_END_EMPTY_SLOT: no start bit within 1.5 Tc of a slot's opening (R20). -/
  | tailEndEmptySlot
  /-- CLEAR_PULSE: the line has been dominant for 6 Tc (R22). -/
  | clearPulse
  /-- CLEAR_PULSE_END: the 8 Tc of this station's own pulse end (R21). -/
  | clearPulseEnd
  /-- STUCK_LINE: the line has been dominant for 64 Tc (R23). -/
  | stuckLine
  /-- LINE_FAULT_CLEAR: the stuck line returns to recessive (R23). -/
  | lineFaultClear
  /-- ACCEPTED_PRESS: the third opposite reading of a released key (R86). -/
  | acceptedPress (seat : Seat) (key : PadKey)
  /-- ACCEPTED_RELEASE: the third opposite reading of a pressed key (R86). -/
  | acceptedRelease (seat : Seat) (key : PadKey)
  /-- REFUSAL_FLASH_END: the clock reaches the end instant of a seat's flash (R93). -/
  | refusalFlashEnd (seat : Seat)
  /-- WARN: the clock reaches the warn instant (R82). -/
  | warn
  /-- EXPIRY_DUE: the clock reaches the expiry instant (R83). -/
  | expiryDue
  /-- EXPIRY_EVENT: the round engine takes the expiry event (R112). -/
  | expiryEvent
  /-- PRESS: the round engine takes the oldest latched press (R115). -/
  | press
  /-- SHOW_TAKEN (R113). -/
  | showTaken
  /-- OPEN_TAKEN (R104 to R106). -/
  | openTaken
  /-- CLOSE_TAKEN (R109). -/
  | closeTaken
  /-- HALT_TAKEN (R110). -/
  | haltTaken
  /-- RESUME_TAKEN (R111). -/
  | resumeTaken
  /-- VERDICT_TAKEN (R124). -/
  | verdictTaken
  /-- BUZZ_TAKEN (R120). -/
  | buzzTaken
  /-- ANSWER_TAKEN (R140). -/
  | answerTaken
  /-- REVEAL_TAKEN (R144). -/
  | revealTaken
  /-- ROLL_TAKEN (R170). -/
  | rollTaken
  /-- HELLO_TAKEN (R174). -/
  | helloTaken
  /-- TALLY_TAKEN (R177). -/
  | tallyTaken
  /-- SCORE_PASS_COMPLETE (R162). -/
  | scorePassComplete
  /-- CATCH_UP_DEADLINE (R178). -/
  | catchUpDeadline
  /-- IDLE_WATCH: an IDLE stretch reaches 2000 ms (R173). -/
  | idleWatch
  /-- RECORD_ABANDON: the characters that arrived since the last record, and then a gap of more than 10 ms (R182). -/
  | recordAbandon (chars : List UartChar)
  /-- RECORD_LOST: a record completes while both input slots are held (R183). -/
  | recordLost
  /-- MALFORMED_RECORD: a completed record's kind and length bytes (R184). -/
  | malformedRecord (kind length : Byte)
  /-- STATUS_COMMAND (R185). -/
  | statusCommand
  /-- STANDINGS_COMMAND (R185). -/
  | standingsCommand
  /-- FLOOR_COMMAND (R185). -/
  | floorCommand
  /-- SEAT_COMMAND, with the station and seat byte (R185). -/
  | seatCommand (target : Byte)
  /-- VOTES_COMMAND (R185). -/
  | votesCommand
  /-- ROSTER_COMMAND (R185). -/
  | rosterCommand
  /-- NOTICES_COMMAND, with the enable mask (R185). -/
  | noticesCommand (mask : Byte)
  /-- CATCH_UP_COMMAND (R185). -/
  | catchUpCommand
  /-- START_SHOW_COMMAND, with the show number (R186). -/
  | startShowCommand (showNo : Byte)
  /-- ROLL_COMMAND (R186). -/
  | rollCommand
  /-- OPEN_COMMAND, with question number, mode, B, P, k, W and L (R39, R186). -/
  | openCommand (question mode base penalty stake window lead : Byte)
  /-- VERDICT_COMMAND, with the station and seat byte and the outcome (R130). -/
  | verdictCommand (target outcome : Byte)
  /-- CLOSE_COMMAND (R186). -/
  | closeCommand
  /-- REVEAL_COMMAND, with the correct set (R148). -/
  | revealCommand (set : Byte)
  /-- HALT_COMMAND (R186). -/
  | haltCommand
  /-- RESUME_COMMAND (R186). -/
  | resumeCommand
  /-- CLEAR_LINE_COMMAND (R21, R186). -/
  | clearLineCommand
  /-- REPLY_SENT: a reply's last stop bit ends (R183). -/
  | replySent
  /-- NOTICE_SENT: a notice record ends (R188). -/
  | noticeSent
  /-- KEY_SCAN: one scan. Bit 5 × seat + key is set where that key reads down, the keys being 0 buzz, 1 A, 2 B,
  3 C, 4 D (R85, R86). -/
  | keyScan (readings : BitVec 40)
  deriving DecidableEq, Repr

end Sys2Proof
end

