-- ==== Sys2Proof/Decode.lean ====
section
/-! DEFINITION. The command that a word of the table spells. -/

namespace Sys2Proof

/-- spec/opcode_table.json gives no row any bits, so no word spells a command (log entry 23). -/
def decodeTableWord (_nbits _w : Nat) : Option Instr := none

end Sys2Proof
end

