-- ==== Sys2Proof/Config.lean ====
section
/-! DEFINITION. The capacities and times the manual fixes for every QD32. No value of the manual is left
open for an implementation, so there is no opaque constant here. -/

namespace Sys2Proof.Config

/-- Entries the transmit queue holds (R41). -/
abbrev transmitPlaces : Nat := 12

/-- Places of the receive queue (R63). -/
abbrev receivePlaces : Nat := 4

/-- Busy vetoes in a row before a frame is let pass (R67). -/
abbrev busyRunLimit : Nat := 3

/-- The retry count that drops an entry as UNDELIVERABLE (R50). -/
abbrev retryLimit : Nat := 16

/-- What a fault veto or a disturbance of an own frame adds to the health count (R69). -/
abbrev ownFailureCost : Nat := 8

/-- The highest health count (R69). -/
abbrev healthTop : Nat := 255

/-- The highest count of ACTIVE (R70). -/
abbrev activeTop : Nat := 95

/-- The highest count of WARNING (R70). -/
abbrev warningTop : Nat := 127

/-- LONG IDLEs that bring a station out of OFF (R72). -/
abbrev offRecovery : Nat := 32

/-- Presses a seat's latch list holds (R87). -/
abbrev latchPlaces : Nat := 4

/-- Length of the refusal flash in ms (R93). -/
abbrev flashTime : Nat := 500

/-- Entries of the buzz queue (R116). -/
abbrev buzzPlaces : Nat := 16

/-- Marks a tail records at most (R19). -/
abbrev tailMarks : Nat := 32

/-- The longest body of a frame (R24). -/
abbrev longestBody : Nat := 26

/-- The longest body of a desk-link record (R39). -/
abbrev longestRecord : Nat := 80

/-- Input slots of the desk link (R183). -/
abbrev inputSlots : Nat := 2

/-- The catch-up deadline after the HELLO's take stamp, in ms (R174). -/
abbrev catchUpTime : Nat := 4000

/-- The quiet that the idle watch waits for, in ms (R173). -/
abbrev idleWatchTime : Nat := 2000

/-- The limits of a seat total (R151). -/
abbrev totalFloor : Int := -9999
abbrev totalTop : Int := 29999

/-- The highest streak (R151). -/
abbrev streakTop : Nat := 15

/-- The limits of the displayed team total (R97). -/
abbrev displayFloor : Int := -99999
abbrev displayTop : Int := 999999

end Sys2Proof.Config
end

