-- ==== Sys2Proof/Machine/Blocks.lean ====
section
/-! DEFINITION. The state of each block of the QD32 (00_scope, section 2) as plain data, with the value each block
starts from at power-up and at release of RESET (R181). -/

namespace Sys2Proof.Machine

/-! ### Supply and RESET -/

/-- What may hold the part: the level of the RESET pin and the supply (R181). -/
structure Power where
  resetActive : Bool
  supplyGood  : Bool
  deriving DecidableEq, Repr

/-- RESET released and the supply good: the part runs (R181). -/
def powerOn : Power := { resetActive := false, supplyGood := true }

/-! ### Straps -/

/-- What the strap latch says a station is: a presenter, or a desk of a team (R180). -/
inductive Role where
  | presenter
  | desk (team : Team)
  deriving DecidableEq, Repr

/-- The strap latch (R180). `fast` is the SPEED strap: FAST when set, STANDARD otherwise (R3). -/
structure Straps where
  station   : Station
  role      : Role
  seatCount : Nat
  fast      : Bool
  deriving DecidableEq, Repr

/-- What the levels of the strap pins latch (R180). At a presenter the seat pins are ignored and the count is 0. -/
def latchStraps (pins : StrapPins) : Straps :=
  { station := pins.stn.toFin
    role := if h : pins.team = 0 then .presenter
            else .desk ⟨pins.team.toNat - 1, by
              have := pins.team.isLt
              have : pins.team.toNat ≠ 0 := fun e => h (BitVec.eq_of_toNat_eq (by simpa using e))
              omega⟩
    seatCount := if pins.team = 0 then 0 else pins.seats.toNat + 1
    fast := pins.speed }

/-! ### Frames -/

/-- The twelve kinds of frame (R27). The first five words differ from the manual's where Lean reserves them:
`newShow` is SHOW, `openQ` OPEN and `closeQ` CLOSE. -/
inductive Kind where
  | newShow | halt | resume | openQ | closeQ | verdict | buzz | answer | reveal | roll | hello | tally
  deriving DecidableEq, Repr

/-- The causes of a fault (R77). -/
inductive Cause where
  | framing | syn | length | kind | shape | check | disturbed | stuck | twin
  deriving DecidableEq, Repr

/-- A fault found in a frame, with the position at which it was found (R24, R29). -/
structure FaultMark where
  cause    : Cause
  position : Nat
  deriving DecidableEq, Repr

/-! ### Line interface -/

/-- How far the present level of the line has been measured (R4, R22, R23): not yet IDLE, IDLE, LONG IDLE reached,
a dominant run recognised as a clear pulse, a dominant run recognised as stuck. -/
inductive Level where
  | unsettled | idle | longIdle | pulse | stuck
  deriving DecidableEq, Repr

/-- The part of a frame read so far: its characters after the SYNs, and the faults found in them (R7, R29). -/
structure Partial where
  chars  : List Byte
  faults : List FaultMark
  deriving DecidableEq, Repr

/-- The receive store's decision at the end of the check (R59). -/
inductive Decision where
  | faultVeto | busyVeto | noVeto | letPass
  deriving DecidableEq, Repr

/-- What the veto window shows (R16). -/
inductive Verdict where
  | taken | faultVetoed | busyVetoed
  deriving DecidableEq, Repr

/-- A verdict held because the line was still dominant at the window's end, with its reading (R17, R60). -/
structure HeldVerdict where
  verdict : Verdict
  stamp   : Stamp
  deriving DecidableEq, Repr

/-- A frame in its veto window (R15 to R17). -/
structure Window where
  frame    : Partial
  decision : Decision
  driven   : Bool
  held     : Option HeldVerdict
  deriving DecidableEq, Repr

/-- The tail slots being followed (R18, R19): the marks recorded, the own mark still to give, and the character of
the slot before where that slot's character completed without a framing fault. -/
structure Tail where
  marks  : List Byte
  mine   : Option Byte
  before : Option Byte
  deriving DecidableEq, Repr

/-- The receiver's states (01, 1.3). -/
inductive Receiver where
  | waitIdle
  | hunt
  | syn1
  | frame (f : Partial)
  | adriftExtent (f : Partial)
  | window (w : Window)
  | tail (t : Tail)
  deriving DecidableEq, Repr

/-- The transmitter's states (01, 1.4). -/
inductive TxState where
  | silent | ready | defer | arbitrate | send | awaitVerdict | mark | clear
  deriving DecidableEq, Repr

/-- The line interface. `disturbed` says that the own transmitter was disturbed in the frame now followed (R61);
`frame` and `sent` are the characters of the frame in flight, SYNs included, and how many have gone out. -/
structure LineIf where
  level     : Level
  idleSince : Option Stamp
  fault     : Bool
  rx        : Receiver
  disturbed : Bool
  tx        : TxState
  frame     : List Byte
  sent      : Nat
  deriving DecidableEq, Repr

/-- R5. -/
def lineStart : LineIf :=
  { level := .unsettled, idleSince := none, fault := false, rx := .waitIdle, disturbed := false
    tx := .silent, frame := [], sent := 0 }

/-! ### Transmit scheduler -/

/-- The values a presenter's command gave (R41); 0 where the kind has none. -/
structure CommandValues where
  showNo  : Byte := 0
  mode    : Byte := 0
  base    : Byte := 0
  penalty : Byte := 0
  stake   : Byte := 0
  window  : Byte := 0
  lead    : Byte := 0
  target  : Byte := 0
  outcome : Byte := 0
  set     : Byte := 0
  deriving DecidableEq, Repr

/-- An entry of the transmit queue (R41). `inFlight` marks the entry whose frame is on the line (R43). -/
structure TxEntry where
  kind     : Kind
  key      : Key
  question : Nat
  values   : CommandValues
  retry    : Nat
  discard  : Bool
  inFlight : Bool
  deriving DecidableEq, Repr

/-- An entry of the pending answer list (R51). -/
structure PendingAnswer where
  seat    : Seat
  choice  : Choice
  e       : Nat
  changed : Bool
  deriving DecidableEq, Repr

/-- The transmit scheduler (R41, R51). -/
structure Scheduler where
  queue   : List TxEntry
  answers : List PendingAnswer
  deriving DecidableEq, Repr

/-- R41. -/
def schedulerStart : Scheduler := { queue := [], answers := [] }

/-! ### Receive store -/

/-- A place of the receive queue (R63). A `claimed` place belongs to a ROLL or HELLO whose tail has not ended (R65). -/
structure RxEntry where
  kind    : Kind
  key     : Key
  body    : List Byte
  stamp   : Stamp
  marks   : List Byte
  tailCut : Bool
  claimed : Bool
  deriving DecidableEq, Repr

/-- The health states (R70). -/
inductive Health where
  | active | warning | quiet | off
  deriving DecidableEq, Repr

/-- The last fault record (R77). -/
structure FaultRecord where
  cause    : Option Cause
  position : Nat
  key      : Key
  deriving DecidableEq, Repr

/-- The receive store (04). -/
structure Store where
  queue     : List RxEntry
  busyRun   : Nat
  count     : Nat
  health    : Health
  longIdles : Nat
  adrift    : Bool
  twin      : Bool
  lastFault : FaultRecord
  deriving DecidableEq, Repr

/-- R63, R67, R69, R72, R73, R76, R77. -/
def storeStart : Store :=
  { queue := [], busyRun := 0, count := 0, health := .active, longIdles := 0, adrift := true, twin := false
    lastFault := { cause := none, position := 0, key := 0 } }

/-! ### Seat panel -/

/-- A key's debounce (R86). -/
structure KeyState where
  pressed : Bool
  run     : Nat
  deriving DecidableEq, Repr

/-- A latched press (R87). -/
structure Press where
  key   : PadKey
  stamp : Stamp
  deriving DecidableEq, Repr

/-- A chosen answer (R90). -/
structure Chosen where
  choice : Choice
  e      : Nat
  deriving DecidableEq, Repr

/-- What the seat panel holds for one seat (R86, R87, R89 to R91, R93). -/
structure SeatState where
  keys    : Vector KeyState 5
  latch   : List Press
  buzzed  : Bool
  chosen  : Option Chosen
  correct : Bool
  flash   : Option Stamp
  deriving DecidableEq, Repr

/-- The seat panel; `reveal` is the desk's reveal set (R92). -/
structure Panel where
  seats  : Vector SeatState 8
  reveal : Option ChoiceSet
  deriving DecidableEq, Repr

/-- R86, R87, R89 to R91, R93. -/
def seatStart : SeatState :=
  { keys := Vector.replicate 5 { pressed := false, run := 0 }, latch := [], buzzed := false, chosen := none
    correct := false, flash := none }

/-- R92. -/
def panelStart : Panel := { seats := Vector.replicate 8 seatStart, reveal := none }

/-! ### Round clock -/

/-- The conditions of the question timer (R79). -/
inductive TimerCond where
  | clear | running | halted | expired | stopped
  deriving DecidableEq, Repr

/-- The stretch before the current one (R79). -/
structure Stretch where
  start  : Stamp
  offset : Stamp
  stop   : Stamp
  deriving DecidableEq, Repr

/-- The question timer (R79). `start` and `offset` are the current stretch. -/
structure Timer where
  cond      : TimerCond
  origin    : Stamp
  limit     : Nat
  warnPoint : Option Nat
  warned    : Bool
  start     : Stamp
  offset    : Stamp
  previous  : Option Stretch
  haltStamp : Option Stamp
  due       : Bool
  deriving DecidableEq, Repr

/-- R79. -/
def timerStart : Timer :=
  { cond := .clear, origin := 0, limit := 0, warnPoint := none, warned := false, start := 0, offset := 0
    previous := none, haltStamp := none, due := false }

/-- The round clock. `scanned` holds the keys that this clock value has had its reading of, one bit for each key as
KEY_SCAN numbers them: a key is read once for each value (R85). -/
structure RoundClock where
  now     : Stamp
  scanned : BitVec 40
  timer   : Timer
  deriving DecidableEq, Repr

/-- R78, R79. -/
def clockStart : RoundClock := { now := 0, scanned := 0, timer := timerStart }

/-! ### Round engine -/

/-- The round states (R98). -/
inductive RoundState where
  | standby | closed | opened | halted | expired | scoring
  deriving DecidableEq, Repr

/-- The type of a question (R99). -/
inductive QuestionType where
  | buzz | poll
  deriving DecidableEq, Repr

/-- The lockout scope (R99). -/
inductive Scope where
  | seat | desk | team
  deriving DecidableEq, Repr

/-- The answer mode (R99). -/
inductive AnswerMode where
  | first | last
  deriving DecidableEq, Repr

/-- The current question record (R99). -/
structure Question where
  number   : Nat
  type     : QuestionType
  base     : Nat
  penalty  : Nat
  stake    : Nat
  windowMs : Nat
  lead     : Nat
  scope    : Scope
  mode     : AnswerMode
  choices  : Nat
  modeByte : Byte
  deriving DecidableEq, Repr

/-- The reasons for which a frame is refused (R103). -/
inductive Reason where
  | question | state | notFloor | locked | again | full | late | showDiffers
  deriving DecidableEq, Repr

/-- The last refusal record (R103). -/
structure RefusalRecord where
  kind   : Option Kind
  reason : Option Reason
  key    : Key
  deriving DecidableEq, Repr

/-- The round engine (R98). `pass` is the correct set of the score pass in flight (R114, R161). -/
structure Engine where
  state    : RoundState
  showNo   : Nat
  lastNo   : Nat
  question : Option Question
  refusal  : RefusalRecord
  pass     : Option ChoiceSet
  deriving DecidableEq, Repr

/-- R98, R103. -/
def engineStart : Engine :=
  { state := .standby, showNo := 0, lastNo := 0, question := none
    refusal := { kind := none, reason := none, key := 0 }, pass := none }

/-! ### Buzz unit and poll unit -/

/-- An entry of the buzz queue (R116). -/
structure BuzzEntry where
  station : Station
  seat    : Seat
  team    : Team
  e       : Nat
  key     : Key
  deriving DecidableEq, Repr

/-- A unit of the lockout set (R117). -/
inductive LockUnit where
  | seat (station : Station) (seat : Seat)
  | station (station : Station)
  | team (team : Team)
  deriving DecidableEq, Repr

/-- The buzz unit (R116, R117). -/
structure BuzzUnit where
  queue    : List BuzzEntry
  lockouts : List LockUnit
  deriving DecidableEq, Repr

/-- R116, R117. -/
def buzzStart : BuzzUnit := { queue := [], lockouts := [] }

/-- A record of the poll table (R135). -/
structure PollRecord where
  station : Station
  seat    : Seat
  choice  : Choice
  e       : Nat
  deriving DecidableEq, Repr

/-- The poll unit: the poll table and the choice tally (R135, R136). -/
structure PollUnit where
  table : List PollRecord
  tally : Vector Nat 4
  deriving DecidableEq, Repr

/-- R135, R136. -/
def pollStart : PollUnit := { table := [], tally := Vector.replicate 4 0 }

/-! ### Score unit -/

/-- How a seat fared at its last scored question (R151). -/
inductive SeatOutcome where
  | none | correct | wrong | noAnswer
  deriving DecidableEq, Repr

/-- A seat score record (R151). -/
structure SeatRecord where
  station   : Station
  seat      : Seat
  total     : Int
  streak    : Nat
  outcome   : SeatOutcome
  lastAward : Int
  deriving DecidableEq, Repr

/-- An entry of the standings list (R164). -/
structure Standing where
  team  : Team
  total : Int
  rank  : Nat
  deriving DecidableEq, Repr

/-- The score unit (R151, R154, R164). -/
structure ScoreUnit where
  records   : List SeatRecord
  totals    : Vector Int 7
  standings : List Standing
  deriving DecidableEq, Repr

/-- A record as created (R152). -/
def newRecord (st : Station) (seat : Seat) : SeatRecord :=
  { station := st, seat := seat, total := 0, streak := 0, outcome := .none, lastAward := 0 }

/-- The seats 0 to s − 1 of a station, in order (R85). -/
def seatsBelow (s : Nat) : List Seat := (List.finRange 8).filter fun i => decide (i.val < s)

/-- R151, R154, R164: a desk has its own fitted seats and stands alone in the list; a presenter has neither. -/
def scoreStart (straps : Straps) : ScoreUnit :=
  { records := (seatsBelow straps.seatCount).map (newRecord straps.station)
    totals := Vector.replicate 7 0
    standings := match straps.role with
      | .presenter => []
      | .desk t => [{ team := t, total := 0, rank := 1 }] }

/-! ### Roster -/

/-- A station entry (R167); a code of `none` is UNKNOWN. -/
structure RosterEntry where
  code    : Option Role
  present : Bool
  deriving DecidableEq, Repr

/-- The catch-up states (R171). -/
inductive CatchUpState where
  | none | waiting | done
  deriving DecidableEq, Repr

/-- The catch-up record (R171); the two sets hold no station twice. -/
structure CatchUp where
  state    : CatchUpState
  expected : List Station
  received : List Station
  deadline : Option Stamp
  deriving DecidableEq, Repr

/-- The record in NONE (R171). -/
def catchUpNone : CatchUp := { state := .none, expected := [], received := [], deadline := none }

/-- The roster (10). `watchFired` says that the idle watch has expired in this stretch of IDLE (R173). -/
structure Roster where
  entries    : Vector RosterEntry 32
  catchUp    : CatchUp
  watchFired : Bool
  deriving DecidableEq, Repr

/-- R167, R171, R173. -/
def rosterStart (straps : Straps) : Roster :=
  { entries := putAt (Vector.replicate 32 { code := none, present := false }) straps.station
      { code := some straps.role, present := true }
    catchUp := catchUpNone
    watchFired := false }

/-! ### Desk link -/

/-- The record receiver (R182). -/
inductive RecordRx where
  | hunt
  | kind
  | length (kind : Byte)
  | body (kind length : Byte) (got : List Byte)
  deriving DecidableEq, Repr

/-- The reasons for which a command is refused (R40). -/
inductive Refused where
  | notPresenter | busy | stale | state | duplicate | malformed
  deriving DecidableEq, Repr

/-- How a command was answered (R184). -/
inductive Status where
  | ok | adjusted | refused (why : Refused)
  deriving DecidableEq, Repr

/-- A reply formed and waiting in its input slot (R183, R184). Its overrun flag is set as it begins. -/
structure Reply where
  kind   : Byte
  status : Status
  inPass : Bool
  data   : List Byte
  deriving DecidableEq, Repr

/-- What the desk-link transmitter is sending (R188), as the bytes of the record. -/
inductive LinkTx where
  | idle
  | reply (bytes : List Byte)
  | notice (bytes : List Byte)
  deriving DecidableEq, Repr

/-- A byte read from the desk link, with its framing error (R182). -/
structure LinkByte where
  value   : Byte
  framing : Bool
  deriving DecidableEq, Repr

/-- The reasons of a FAULT notice (R187). -/
inductive FaultReason where
  | stuck | undeliverable | twin
  deriving DecidableEq, Repr

/-- The desk link (R181). Each reply of `replies` holds an input slot, the first being the one that is sent next or
now (R183). -/
structure DeskLink where
  rx          : RecordRx
  replies     : List Reply
  tx          : LinkTx
  overrun     : Bool
  mask        : BitVec 7
  raised      : BitVec 7
  faultReason : Option FaultReason
  deriving DecidableEq, Repr

/-- R181. DESIGN CHOICE (log entry 32), unsafe: the FAULT reason starts as none, since no rule gives the reason kept
before the first FAULT, and no FAULT notice is sent before one is raised. -/
def linkStart : DeskLink :=
  { rx := .hunt, replies := [], tx := .idle, overrun := false, mask := 0, raised := 0, faultReason := none }

end Sys2Proof.Machine
end

