-- ==== Sys2Proof/Machine/State.lean ====
section
/-! DEFINITION. The state of the station, its reasons to stop, and the state after reset. -/

namespace Sys2Proof.Machine

/-- Everything the manual gives the part, and the commands that wait. -/
structure State where
  power   : Power
  straps  : Straps
  line    : LineIf
  sched   : Scheduler
  store   : Store
  panel   : Panel
  clock   : RoundClock
  engine  : Engine
  buzz    : BuzzUnit
  poll    : PollUnit
  score   : ScoreUnit
  roster  : Roster
  link    : DeskLink
  pending : List Instr
  deriving DecidableEq, Repr

/-- An active RESET, or a supply not yet good, holds the part (R181). -/
def State.held (s : State) : Bool := s.power.resetActive || !s.power.supplyGood

/-- Reasons for the part to stop. There are none: no rule of the manual stops the part, so nothing raises one. -/
inductive Fault where
  deriving DecidableEq, Repr

/-- Reasons to give a command no meaning. -/
inductive Refusal where
  /-- Raised by an arm of `exec` whose command has no meaning yet. Safe: the model stops where the part goes on. -/
  | notModelled (mnemonic : String)
  deriving DecidableEq, Repr

/-- Every block at the value its chapter gives for power-up and release of RESET, with the straps just latched
(R181), and the given commands waiting. -/
def startWith (straps : Straps) (waiting : List Instr) : State :=
  { power := powerOn
    straps := straps
    line := lineStart
    sched := schedulerStart
    store := storeStart
    panel := panelStart
    clock := clockStart
    engine := engineStart
    buzz := buzzStart
    poll := pollStart
    score := scoreStart straps
    roster := rosterStart straps
    link := linkStart
    pending := waiting }

/-- The machine right after reset, with every strap pin low: presenter station 0 at STANDARD speed.
DESIGN CHOICE (log entry 3): the manual leaves the straps to the installer. Unsafe for a claim that rests on it. -/
def State.reset : State :=
  startWith (latchStraps { stn := 0, team := 0, seats := 0, speed := false }) []

end Sys2Proof.Machine
end

