-- ==== Sys2Proof/Machine/Operands.lean ====
section
/-! DEFINITION. The operand forms: the layouts of keys, marks, line characters, frame bodies and desk-link data, the
check, and the clamps that bring received values into range (02_frames_keys_and_marks.md). -/

namespace Sys2Proof.Machine

/-! ### Bytes -/

/-- The byte at a body position, 0 where the body is shorter. -/
def byteAt (body : List Byte) (i : Nat) : Byte := body.getD i 0

/-- The whole unsigned number in a byte of a body (R37). -/
def numAt (body : List Byte) (i : Nat) : Nat := (byteAt body i).toNat

/-- A 16-bit value, high byte first (02, 2.8). -/
def bytes2 (v : BitVec 16) : List Byte := [v.extractLsb' 8 8, v.extractLsb' 0 8]

/-- A 32-bit value, high byte first (02, 2.8). -/
def bytes4 (v : BitVec 32) : List Byte :=
  [v.extractLsb' 24 8, v.extractLsb' 16 8, v.extractLsb' 8 8, v.extractLsb' 0 8]

/-! ### Keys and marks -/

/-- class × 2^29 + order × 2^8 + station × 8 + seat (R36). -/
def mkKey (cls order : Nat) (st : Station) (seat : Seat) : Key :=
  BitVec.ofNat 32 (cls * 2 ^ 29 + order * 2 ^ 8 + st.val * 8 + seat.val)

/-- The class field of a key (R36). -/
def keyClass (k : Key) : Nat := k.toNat / 2 ^ 29

/-- The order field of a key (R36). -/
def keyOrder (k : Key) : Nat := k.toNat / 2 ^ 8 % 2 ^ 21

/-- The station field of a key (R36). -/
def keyStation (k : Key) : Station := ⟨k.toNat / 8 % 32, by omega⟩

/-- The seat field of a key (R36). -/
def keySeat (k : Key) : Seat := ⟨k.toNat % 8, by omega⟩

/-- The first four bytes of a list as a key; bytes that are not there stand as 00h (R77). -/
def keyOfBytes (l : List Byte) : Key := byteAt l 0 ++ byteAt l 1 ++ byteAt l 2 ++ byteAt l 3

/-- The station of a mark, or of a station and seat byte (R35, R36). -/
def upperStation (b : Byte) : Station := ⟨b.toNat / 8, by have := b.isLt; omega⟩

/-- The seat of a station and seat byte (R36). -/
def lowerSeat (b : Byte) : Seat := ⟨b.toNat % 8, by omega⟩

/-- The station and seat byte (R36). -/
def seatByte (st : Station) (seat : Seat) : Byte := byteOf (st.val * 8 + seat.val)

/-- The 3-bit code of a role: 0 presenter, 1 to 7 the team (R35). -/
def roleCode : Role → Nat
  | .presenter => 0
  | .desk t => t.val + 1

/-- The role that a 3-bit code stands for (R35). -/
def roleOfCode (c : BitVec 3) : Role :=
  if h : c.toNat = 0 then .presenter else .desk ⟨c.toNat - 1, by have := c.isLt; omega⟩

/-- A station's mark: station × 8 + code (R35). -/
def markByte (st : Station) (r : Role) : Byte := byteOf (st.val * 8 + roleCode r)

/-- The role a mark declares (R35). -/
def markRole (b : Byte) : Role := roleOfCode (b.extractLsb' 0 3)

/-! ### Kinds -/

/-- The code of a kind (R27). -/
def kindCode : Kind → Byte
  | .newShow => 0x01 | .halt => 0x02 | .resume => 0x03 | .openQ => 0x04 | .closeQ => 0x05 | .verdict => 0x06
  | .buzz => 0x07 | .answer => 0x08 | .reveal => 0x09 | .roll => 0x0A | .hello => 0x0B | .tally => 0x0C

/-- The kind a code names, if it names one (R27). -/
def kindOfCode (b : Byte) : Option Kind :=
  [Kind.newShow, .halt, .resume, .openQ, .closeQ, .verdict, .buzz, .answer, .reveal, .roll, .hello, .tally].find?
    fun k => kindCode k == b

/-- The class a kind requires in its key (R25, R27). -/
def kindClass : Kind → Nat
  | .newShow => 0
  | .halt | .resume => 1
  | .openQ | .closeQ | .verdict => 2
  | .buzz => 3
  | .answer => 4
  | .reveal => 5
  | .roll | .hello => 6
  | .tally => 7

/-- The body lengths a kind allows (R27). -/
def kindLengths : Kind → List Nat
  | .newShow | .halt | .resume | .closeQ => [1]
  | .openQ => [8]
  | .verdict => [3]
  | .buzz | .reveal | .roll => [2]
  | .answer => [5, 8, 11, 14, 17, 20, 23, 26]
  | .hello => [0]
  | .tally => [7, 9, 12, 14, 17, 19, 22, 24]

/-- The kinds that a tail follows (R18). -/
def Kind.hasTail : Kind → Bool
  | .roll | .hello => true
  | _ => false

/-! ### The line character (R2) -/

/-- The ten bit levels of a character on the theatre line, the first sent in bit 9: 0 dominant, 1 recessive (R2). -/
abbrev LineChar := BitVec 10

/-- A byte as it is sent: a dominant start bit, the data bits most significant first with 0 dominant, and a recessive
stop bit (R2). -/
def lineChar (b : Byte) : LineChar := 0#1 ++ b ++ 1#1

/-- The data byte that a receiver reads of the ten levels it sampled (R2). -/
def lineByte (c : LineChar) : Byte := c.extractLsb' 1 8

/-- A stop bit sampled dominant is a framing fault on the character (R2). -/
def lineFraming (c : LineChar) : Bool := !c.getLsbD 0

/-! ### The frame and its check -/

/-- The SYN character (R24). -/
def synByte : Byte := 0xD2

/-- One bit into the check register: generator x^16 + x^12 + x^5 + 1 (R28). -/
def crcBit (r : BitVec 16) (b : Bool) : BitVec 16 :=
  if r.msb ^^ b then (r <<< 1) ^^^ 0x1021#16 else r <<< 1

/-- One byte into the check register, most significant bit first (R28). -/
def crcByte (r : BitVec 16) (b : Byte) : BitVec 16 :=
  (List.range 8).foldl (fun r i => crcBit r (b.getMsbD i)) r

/-- The check of the key, kind, length and body bytes: from FFFFh, neither inverted nor reflected (R28). -/
def crc (bytes : List Byte) : BitVec 16 := bytes.foldl crcByte 0xFFFF#16

/-- A frame's characters in the order they are sent, SYNs and check included (R24). -/
def frameChars (kind : Kind) (key : Key) (body : List Byte) : List Byte :=
  let covered := bytes4 key ++ [kindCode kind, byteOf body.length] ++ body
  [synByte, synByte] ++ covered ++ bytes2 (crc covered)

/-! ### Clamps (R31) -/

/-- A show number or question number: 0 is taken as 1. -/
def clampNumber (n : Nat) : Nat := if n = 0 then 1 else n

/-- Base and penalty: at most 250. -/
def clampPoints (n : Nat) : Nat := min n 250

/-- Stake: 1 to 3. -/
def clampStake (n : Nat) : Nat := max 1 (min n 3)

/-- Window in seconds: 1 to 120. -/
def clampWindow (n : Nat) : Nat := max 1 (min n 120)

/-- Warn lead in seconds: at most 30. -/
def clampLead (n : Nat) : Nat := min n 30

/-- Number of choices: 2 to 4. -/
def clampChoices (n : Nat) : Nat := max 2 (min n 4)

/-- A team byte: 0 is taken as team 1, and 8 to 255 as team 7. -/
def clampTeam (n : Nat) : Team := ⟨max 1 (min n 7) - 1, by omega⟩

/-- A TALLY total (R34). -/
def clampTotal (t : Int) : Int := max Config.totalFloor (min t Config.totalTop)

/-! ### The mode byte of an OPEN (R37) -/

/-- Type: bit 7. -/
def modeType (m : Byte) : QuestionType := if m.getLsbD 7 then .poll else .buzz

/-- Lockout scope: bits 6 and 5, the fourth value used as SEAT (R31, R37). -/
def modeScope (m : Byte) : Scope :=
  match (m.extractLsb' 5 2).toNat with
  | 1 => .desk
  | 2 => .team
  | _ => .seat

/-- Answer mode: bit 4. -/
def modeAnswer (m : Byte) : AnswerMode := if m.getLsbD 4 then .last else .first

/-- The number of choices as received: bits 2 to 0. -/
def modeChoices (m : Byte) : Nat := (m.extractLsb' 0 3).toNat

/-- The mode byte with its clamped fields rewritten: a scope of 11 becomes 00, and n comes into range (R186). -/
def rewriteMode (m : Byte) : Byte :=
  let kept := if m.extractLsb' 5 2 = 3#2 then m &&& 0x9F#8 else m
  (kept &&& 0xF8#8) ||| byteOf (clampChoices (modeChoices m))

/-- Bit 3 of the mode byte is sent as 0 (R37). DEDUCED (log entry 18): R186 keeps the command's bit in the entry. -/
def sentMode (m : Byte) : Byte := m &&& 0xF7#8

/-! ### Bodies -/

/-- The outcomes of a VERDICT (R37). -/
inductive Judged where
  | correct | wrong | void
  deriving DecidableEq, Repr

/-- An outcome byte, any unknown value being VOID (R31). -/
def outcomeOf (b : Byte) : Judged :=
  if b = 1#8 then .correct else if b = 2#8 then .wrong else .void

/-- The correct set of a set byte, with the choices at or above n removed (R33). -/
def reduceSet (b : Byte) (n : Nat) : ChoiceSet := b.extractLsb' 0 4 &&& BitVec.ofNat 4 (2 ^ n - 1)

/-- Whether a choice is in a set (R37). -/
def inSet (set : ChoiceSet) (c : Choice) : Bool := set.getLsbD c.val

/-- An entry of an ANSWER body (R38). -/
structure AnswerEntry where
  seat   : Seat
  choice : Choice
  e      : Nat
  deriving DecidableEq, Repr

/-- The three bytes of an ANSWER entry (R38): seat in bits 7 to 5, choice in bits 4 to 3, then e. -/
def answerEntryBytes (a : AnswerEntry) : List Byte :=
  [byteOf (a.seat.val * 32 + a.choice.val * 8 + a.e / 65536 % 8), byteOf (a.e / 256), byteOf a.e]

/-- The entries of an ANSWER body after its first two bytes (R32, R38). -/
def answerEntries : List Byte → List AnswerEntry
  | a :: b :: c :: rest =>
    { seat := ⟨a.toNat / 32, by have := a.isLt; omega⟩
      choice := ⟨a.toNat / 8 % 4, by omega⟩
      e := a.toNat % 8 * 65536 + b.toNat * 256 + c.toNat } :: answerEntries rest
  | _ => []

/-- ceil(s / 2): the streak bytes of a TALLY of s seats (R38). -/
def streakBytes (s : Nat) : Nat := (s + 1) / 2

/-- The length of a TALLY of s seats (R38). -/
def tallyLength (s : Nat) : Nat := 4 + 2 * s + streakBytes s

/-- The total of seat i in a TALLY body: 16-bit two's complement, high byte first, clamped (R34). -/
def tallyTotal (body : List Byte) (i : Nat) : Int :=
  clampTotal (byteAt body (4 + 2 * i) ++ byteAt body (5 + 2 * i)).toInt

/-- The streak of seat i in a TALLY body of s seats: the first of each pair in the high four bits (R34). -/
def tallyStreak (body : List Byte) (s i : Nat) : Nat :=
  let pair := numAt body (4 + 2 * s + i / 2)
  if i % 2 = 0 then pair / 16 else pair % 16

/-- Streaks packed two to a byte, an odd last one with low bits of 0 (R34). -/
def packStreaks : List Nat → List Byte
  | a :: b :: rest => byteOf (a * 16 + b) :: packStreaks rest
  | [a] => [byteOf (a * 16)]
  | [] => []

end Sys2Proof.Machine
end

