-- ==== Sys2Proof/Machine/Flags.lean ====
section
/-! DEFINITION. The flags and conditions that several blocks set: the pending notices (R187), the catch-up state
(R171), adrift (R73, R74), the health count and state (R69 to R72), the twin fault (R75) and the two last-event
records (R77, R103). -/

namespace Sys2Proof.Machine

/-! ### Notices (R187) -/

/-- The notice kinds, in the order of R187's table. -/
inductive Notice where
  | floor | round | standings | poll | health | fault | catchUp
  deriving DecidableEq, Repr

/-- The bit of a notice kind in the enable mask and the pending set (R39). -/
def noticeBit : Notice → Nat
  | .floor => 0 | .round => 1 | .standings => 2 | .poll => 3 | .health => 4 | .fault => 5 | .catchUp => 6

/-- A block raises a notice: the kind joins the pending set, enabled or not (R187). -/
def raise (n : Notice) (s : State) : State :=
  { s with link := { s.link with raised := s.link.raised ||| BitVec.twoPow 7 (noticeBit n) } }

/-- Raise a notice when a condition holds. -/
def raiseIf (c : Bool) (n : Notice) (s : State) : State := if c then raise n s else s

/-- FAULT also keeps the reason with which it was most recently raised (R187). -/
def raiseFault (why : FaultReason) (s : State) : State :=
  raise .fault { s with link := { s.link with faultReason := some why } }

/-! ### Records of the last refusal and the last fault -/

/-- A refused frame overwrites the last refusal record (R103). -/
def refuseFrame (f : RxEntry) (why : Reason) (s : State) : State :=
  { s with engine := { s.engine with refusal := { kind := some f.kind, reason := some why, key := f.key } } }

/-- The last fault record, overwritten whole (R77). -/
def recordFault (c : Cause) (position : Nat) (key : Key) (s : State) : State :=
  { s with store := { s.store with lastFault := { cause := some c, position := position, key := key } } }

/-! ### Catch-up and adrift -/

/-- A move of the catch-up record; every change of its state raises CATCHUP (R171). -/
def setCatchUp (c : CatchUp) (s : State) : State :=
  raiseIf (decide (s.roster.catchUp.state ≠ c.state)) .catchUp { s with roster := { s.roster with catchUp := c } }

/-- Adrift is set by an event of R73: HEALTH when it goes from clear to set, and the roster is told, which abandons
a catch-up in WAITING or DONE (R171). DEDUCED (log entry 8): the roster is told at a repeated setting too. -/
def setAdrift (s : State) : State :=
  setCatchUp catchUpNone
    (raiseIf (!s.store.adrift) .health { s with store := { s.store with adrift := true } })

/-- R74. -/
def clearAdrift (s : State) : State := { s with store := { s.store with adrift := false } }

/-! ### Health -/

/-- The state that follows a count outside OFF (R70). -/
def healthOf (count : Nat) : Health :=
  if count ≤ Config.activeTop then .active else if count ≤ Config.warningTop then .warning else .quiet

/-- The health state, HEALTH being raised at every change (R70). -/
def setHealth (h : Health) (s : State) : State :=
  raiseIf (decide (s.store.health ≠ h)) .health { s with store := { s.store with health := h } }

/-- A receiver whose station stops driving: a veto of the window ends and no more marks are given (R71, R76). -/
def stopDriving : Receiver → Receiver
  | .window w => .window { w with driven := false }
  | .tail t => .tail { t with mine := none }
  | r => r

/-- The transmitter goes SILENT and any drive stops at once (R71, R76). -/
def silence (s : State) : State :=
  { s with line := { s.line with tx := .silent, rx := stopDriving s.line.rx } }

/-- OFF is entered: the count is held at 255, the LONG IDLE count becomes 0, every drive stops (R71). -/
def enterOff (s : State) : State :=
  setHealth .off (silence { s with store := { s.store with count := Config.healthTop, longIdles := 0 } })

/-- An increase of the health count; in OFF it does not move (R69). -/
def addHealth (n : Nat) (s : State) : State :=
  if s.store.health = .off then s
  else if Config.healthTop < s.store.count + n then enterOff s
  else setHealth (healthOf (s.store.count + n)) { s with store := { s.store with count := s.store.count + n } }

/-- The decrease for a frame taken, if the count is above 0; in OFF it does not move (R69). -/
def subHealth (s : State) : State :=
  if s.store.health = .off ∨ s.store.count = 0 then s
  else setHealth (healthOf (s.store.count - 1)) { s with store := { s.store with count := s.store.count - 1 } }

/-- Whether a station may start frames, mark and send clear pulses: not OFF and no twin fault (R9, R18, R21). -/
def maySend (s : State) : Bool := decide (s.store.health ≠ .off) && !s.store.twin

/-- Whether a station may drive the veto window: ACTIVE or WARNING and no twin fault (R15). -/
def mayVeto (s : State) : Bool :=
  (decide (s.store.health = .active) || decide (s.store.health = .warning)) && !s.store.twin

/-- The twin fault is set, or met again (R75, R76): the record is written, FAULT is raised and the transmitter is
SILENT from then on. -/
def setTwin (key : Key) (s : State) : State :=
  silence (raiseFault .twin (recordFault .twin 3 key { s with store := { s.store with twin := true } }))

end Sys2Proof.Machine
end

