-- ==== Sys2Proof/Machine/Sending.lean ====
section
/-! DEFINITION. The transmit scheduler: the transmit queue and its placements, the offer and the body built at it, the
outcomes of a frame in flight, the pending answer list and the purges (03_sending.md). -/

namespace Sys2Proof.Machine

/-! ### The queue (R41, R42) -/

/-- Into ascending key order, after the entries of an equal key (R41). -/
def insertByKey (e : TxEntry) : List TxEntry → List TxEntry
  | [] => [e]
  | h :: t => if e.key < h.key then e :: h :: t else h :: insertByKey e t

/-- An entry as it enters: retry count 0, discard mark clear (R41). -/
def newEntry (s : State) (kind : Kind) (order : Nat) (seat : Seat) (question : Nat) (values : CommandValues) : TxEntry :=
  { kind := kind, key := mkKey (kindClass kind) order s.straps.station seat, question := question, values := values
    retry := 0, discard := false, inFlight := false }

/-- The transmit queue holds 12 entries (R42). -/
def queueFull (s : State) : Bool := decide (Config.transmitPlaces ≤ s.sched.queue.length)

/-- Replace the transmit queue. -/
def setQueue (q : List TxEntry) (s : State) : State := { s with sched := { s.sched with queue := q } }

/-- Replace the pending answer list. -/
def setAnswers (a : List PendingAnswer) (s : State) : State := { s with sched := { s.sched with answers := a } }

/-- Place an entry in key order. A full queue takes none (R42; log entry 16 for the kinds that never meet one). -/
def place (e : TxEntry) (s : State) : State :=
  if queueFull s then s else setQueue (insertByKey e s.sched.queue) s

/-- An entry of the kind stands, in flight or not (R42). -/
def stands (k : Kind) (s : State) : Bool := s.sched.queue.any fun e => decide (e.kind = k)

/-- An entry of the kind for the question stands (R130, R148, R186). -/
def standsFor (k : Kind) (question : Nat) (s : State) : Bool :=
  s.sched.queue.any fun e => decide (e.kind = k) && decide (e.question = question)

/-- The entry in flight, of which there is at most one (R43). -/
def inFlight? (s : State) : Option TxEntry := s.sched.queue.find? (·.inFlight)

/-! ### The pending answer list and its ANSWER entry (R51, R52) -/

/-- The smallest e of the list (R52). -/
def smallestE : List PendingAnswer → Nat
  | [] => 0
  | [a] => a.e
  | a :: rest => min a.e (smallestE rest)

/-- The ANSWER entry that stands for the list; a condemned one in flight is detached from it (R52). -/
def TxEntry.isLiveAnswer (e : TxEntry) : Bool := decide (e.kind = .answer) && !e.discard

/-- The ANSWER entry follows the list: placed when the list has its first entry, moved to its key's place when the
smallest e changes, gone when the list is empty (R52). -/
def refreshAnswer (question : Nat) (s : State) : State :=
  let rest := s.sched.queue.filter fun e => !e.isLiveAnswer
  let fresh := newEntry s .answer (smallestE s.sched.answers) 0 question {}
  match s.sched.answers, s.sched.queue.find? TxEntry.isLiveAnswer with
  | [], _ => setQueue rest s
  | _ :: _, some e => setQueue (insertByKey { e with key := fresh.key } rest) s
  | _ :: _, none => place fresh s

/-- The seat's entry created, or replaced in its place in seat order (R51). -/
def putAnswer (a : PendingAnswer) : List PendingAnswer → List PendingAnswer
  | [] => [a]
  | h :: t =>
    if a.seat = h.seat then a :: t
    else if a.seat < h.seat then a :: h :: t
    else h :: putAnswer a t

/-- An ANSWER frame is in flight (R51). -/
def answerInFlight (s : State) : Bool := s.sched.queue.any fun e => e.inFlight && decide (e.kind = .answer)

/-- An accepted choice press changes the list (R51) and with it the ANSWER entry (R52). -/
def recordAnswer (seat : Seat) (choice : Choice) (e question : Nat) (s : State) : State :=
  refreshAnswer question
    (setAnswers (putAnswer { seat := seat, choice := choice, e := e, changed := answerInFlight s } s.sched.answers) s)

/-- Every changed-since-build mark cleared (R45, R48). -/
def clearChanged (l : List PendingAnswer) : List PendingAnswer := l.map fun a => { a with changed := false }

/-! ### Offering (R43) and building the body (R44 to R46) -/

/-- A question is open in OPEN, HALTED and EXPIRED (R98). -/
def RoundState.isOpen : RoundState → Bool
  | .opened | .halted | .expired => true
  | _ => false

/-- The hold of a TALLY entry is lifted (R176): nothing stands in the receive queue, no pass is in flight, and the
round is CLOSED or STANDBY. -/
def tallyLifted (s : State) : Bool :=
  s.store.queue.isEmpty && s.engine.pass.isNone &&
    (decide (s.engine.state = .closed) || decide (s.engine.state = .standby))

/-- All entries are eligible but a TALLY that is held (R43). -/
def eligible (s : State) (e : TxEntry) : Bool := decide (e.kind ≠ .tally) || tallyLifted s

/-- The lowest-keyed eligible entry, while none is in flight (R43). -/
def offered (s : State) : Option TxEntry :=
  if (inFlight? s).isSome then none else s.sched.queue.find? (eligible s)

/-- The score record of a seat (R151). -/
def recordOf (s : State) (st : Station) (seat : Seat) : Option SeatRecord :=
  s.score.records.find? fun r => decide (r.station = st) && decide (r.seat = seat)

/-- An own seat's total and streak, 0 where it has no record (R46). -/
def ownScore (s : State) (seat : Seat) : Int × Nat :=
  match recordOf s s.straps.station seat with
  | some r => (r.total, r.streak)
  | none => (0, 0)

/-- The team byte of a desk's own frames, from its strapped role (R44). -/
def ownTeamByte (s : State) : Byte := byteOf (roleCode s.straps.role)

/-- A TALLY body (R46): show, last question, team, s, the totals, the streaks. -/
def tallyBody (s : State) : List Byte :=
  let own := (seatsBelow s.straps.seatCount).map (ownScore s)
  [byteOf s.engine.showNo, byteOf s.engine.lastNo, ownTeamByte s, byteOf s.straps.seatCount]
    ++ (own.flatMap fun p => bytes2 (BitVec.ofInt 16 p.1)) ++ packStreaks (own.map (·.2))

/-- An ANSWER body (R45): every pending entry in ascending seat order. -/
def answerBody (question : Nat) (s : State) : List Byte :=
  [byteOf question, ownTeamByte s]
    ++ s.sched.answers.flatMap fun a => answerEntryBytes { seat := a.seat, choice := a.choice, e := a.e }

/-- The body built at the offer, from the entry and the station's state at that instant (R44). -/
def buildBody (e : TxEntry) (s : State) : List Byte :=
  match e.kind with
  | .newShow => [e.values.showNo]
  | .halt | .resume | .closeQ => [byteOf e.question]
  | .openQ => [byteOf s.engine.showNo, byteOf e.question, sentMode e.values.mode, e.values.base, e.values.penalty,
      e.values.stake, e.values.window, e.values.lead]
  | .verdict => [byteOf e.question, e.values.target, e.values.outcome]
  | .reveal => [byteOf e.question, e.values.set]
  | .roll => [byteOf s.engine.showNo, byteOf s.engine.lastNo]
  | .hello => []
  | .buzz => [byteOf e.question, ownTeamByte s]
  | .answer => answerBody e.question s
  | .tally => tallyBody s

/-- Mark the first entry that satisfies a test as in flight. -/
def launch (p : TxEntry → Bool) : List TxEntry → List TxEntry
  | [] => []
  | h :: t => if p h then { h with inFlight := true } :: t else h :: launch p t

/-- The state of the transmitter. -/
def setTx (tx : TxState) (s : State) : State := { s with line := { s.line with tx := tx } }

/-- The line is held IDLE, and no tail overrides it (R4, R20). -/
def lineIdle (s : State) : Bool :=
  (decide (s.line.level = .idle) || decide (s.line.level = .longIdle)) &&
    match s.line.rx with
    | .tail _ => false
    | _ => true

/-- The offered entry's frame begins (R9, R43, R44): its body is built, an ANSWER's changed marks are cleared (R45),
the entry is in flight, the line goes dominant with its first start bit, and the own receiver follows the frame from
its first SYN (R62), so it is put in HUNT wherever it stood (log entry 5). -/
def startFrame (e : TxEntry) (s : State) : State :=
  let answers := if e.kind = .answer then clearChanged s.sched.answers else s.sched.answers
  { s with
    sched := { queue := launch (eligible s) s.sched.queue, answers := answers }
    line := { s.line with
      level := .unsettled, idleSince := none, rx := .hunt, disturbed := false, tx := .arbitrate
      frame := frameChars e.kind e.key (buildBody e s), sent := 0 } }

/-- The transmitter while it sends nothing (R9, R10, R16, R43): SILENT where sending is withheld or nothing is
offered; on an IDLE line an offered entry starts at once, or waits in DEFER at a QUIET station until its further
8 Tc have passed; off an IDLE line it is READY while the queue holds an entry. -/
def settleTx (s : State) : State :=
  match s.line.tx with
  | .silent | .ready | .defer =>
    if !maySend s then setTx .silent s
    else if lineIdle s then
      match offered s with
      | none => setTx .silent s
      | some e =>
        if s.store.health = .quiet ∧ (s.line.level = .idle ∨ s.line.tx = .defer) then setTx .defer s
        else startFrame e s
    else setTx (if s.sched.queue.isEmpty then .silent else .ready) s
  | _ => s

/-! ### Outcomes (R47 to R50, R56) -/

/-- The body is held only while the frame is in flight (R44). -/
def dropBody (s : State) : State := { s with line := { s.line with frame := [], sent := 0 } }

/-- The queue without the entry in flight. -/
def withoutFlight (s : State) : List TxEntry := s.sched.queue.filter fun e => !e.inFlight

/-- The queue with the entry in flight landed: changed by `f` and no longer in flight. -/
def landed (f : TxEntry → TxEntry) (s : State) : List TxEntry :=
  s.sched.queue.map fun e => if e.inFlight then { f e with inFlight := false } else e

/-- The changed marks after an ANSWER was not delivered; a condemned one changes no pending entry (R48, R52). -/
def answersKept (e : TxEntry) (s : State) : List PendingAnswer :=
  if e.isLiveAnswer then clearChanged s.sched.answers else s.sched.answers

/-- DELIVERED: the entry leaves. What an ANSWER carried unchanged leaves the list, and a new entry stands for what
is left (R47, R56). -/
def delivered (s : State) : State :=
  match inFlight? s with
  | none => s
  | some e =>
    let left := dropBody (setQueue (withoutFlight s) s)
    if e.isLiveAnswer then refreshAnswer e.question (setAnswers (clearChanged (s.sched.answers.filter (·.changed))) left)
    else left

/-- LOST or CLEARED: the entry stays with its count, or leaves if condemned (R48, R56). -/
def returned (s : State) : State :=
  match inFlight? s with
  | none => s
  | some e =>
    if e.discard then dropBody (setQueue (withoutFlight s) s)
    else dropBody (setAnswers (answersKept e s) (setQueue (landed id s) s))

/-- FAULT-VETOED, BUSY-VETOED or DISTURBED: the entry stays and counts one retry (R49), is dropped as UNDELIVERABLE
where the count would reach 16 (R50), or leaves uncounted if condemned (R56). -/
def failed (s : State) : State :=
  match inFlight? s with
  | none => s
  | some e =>
    if e.discard then dropBody (setQueue (withoutFlight s) s)
    else if Config.retryLimit ≤ e.retry + 1 then
      raiseFault .undeliverable
        (dropBody (setAnswers (if e.kind = .answer then [] else s.sched.answers) (setQueue (withoutFlight s) s)))
    else dropBody (setAnswers (answersKept e s) (setQueue (landed (fun e => { e with retry := e.retry + 1 }) s) s))

/-! ### Purges (R53 to R56) -/

/-- Discard the entries that satisfy a test; one in flight is condemned, not cut (R56). -/
def purge (p : TxEntry → Bool) (s : State) : State :=
  setQueue
    (s.sched.queue.filterMap fun e =>
      if p e then (if e.inFlight then some { e with discard := true } else none) else some e) s

/-- The question-changed signal, with the question now open (R53). DEDUCED (log entry 15): the list is emptied, so
the ANSWER entry goes whatever its number (R52). -/
def questionChanged (nowOpen : Option Nat) (s : State) : State :=
  setAnswers []
    (purge (fun e => decide (e.kind = .answer) || (decide (e.kind = .buzz) && decide (some e.question ≠ nowOpen))) s)

/-- The purge of a SHOW: BUZZ, ANSWER and TALLY entries (R55). -/
def showPurge (s : State) : State := purge (fun e => decide (e.kind = .tally)) (questionChanged none s)

/-- The purge of a WRONG: the own BUZZ entries that belong to the locked unit (R54). -/
def wrongPurge (u : LockUnit) (s : State) : State :=
  purge (fun e => decide (e.kind = .buzz) &&
    match u with
    | .seat st seat => decide (st = s.straps.station) && decide (keySeat e.key = seat)
    | .station st => decide (st = s.straps.station)
    | .team t => decide (s.straps.role = .desk t)) s

/-! ### Requests of the roster (R42, R172, R175) -/

/-- A request for a HELLO: a standing entry is left, a full queue takes none (R42, R172). -/
def requestHello (s : State) : State :=
  if stands .hello s then s else place (newEntry s .hello 0 0 0 {}) s

/-- A request for a TALLY: a standing entry is left as it is (R42, R175). -/
def requestTally (s : State) : State :=
  if stands .tally s then s else place (newEntry s .tally 0 0 0 {}) s

end Sys2Proof.Machine
end

