-- ==== Sys2Proof/Machine/Ops.lean ====
section
/-! DEFINITION. What every step ends with: the desk-link transmitter and the line transmitter take up what they may
begin (R9, R43, R188), and the form that every command's meaning has. -/

namespace Sys2Proof.Machine

/-! ### The desk-link transmitter (R183, R188) -/

/-- The lead byte of a record (R39). -/
def leadByte : Byte := 0xA5

/-- The reason byte of a refused reply (R40). -/
def refusedCode : Refused → Byte
  | .notPresenter => 1 | .busy => 2 | .stale => 3 | .state => 4 | .duplicate => 5 | .malformed => 6

/-- The first two bytes of a reply body: status and reason (R40). -/
def statusBytes : Status → List Byte
  | .ok => [0, 0]
  | .adjusted => [1, 0]
  | .refused why => [2, refusedCode why]

/-- The bytes of a reply record, with the overrun flag it takes as it begins (R39, R40, R183). -/
def replyBytes (overrun : Bool) (r : Reply) : List Byte :=
  [leadByte, r.kind, byteOf (3 + r.data.length)] ++ statusBytes r.status
    ++ [byteOf (bitOf overrun + 2 * bitOf r.inPass)] ++ r.data

/-- The reason byte of a FAULT notice (R40). With no FAULT raised so far no notice carries one: 00h stands for the
reason then, the model's own choice (log entry 32). -/
def faultReasonCode : Option FaultReason → Byte
  | some .stuck => 1 | some .undeliverable => 2 | some .twin => 3 | none => 0

/-- The bytes of a notice record; only FAULT has a body (R40, R188). -/
def noticeBytes (n : Notice) (why : Option FaultReason) : List Byte :=
  let kind := byteOf (0x40 + noticeBit n)
  if n = .fault then [leadByte, kind, 1, faultReasonCode why] else [leadByte, kind, 0]

/-- The first kind, in the order of R187's table, that is both pending and enabled (R188). -/
def nextNotice (s : State) : Option Notice :=
  [Notice.floor, .round, .standings, .poll, .health, .fault, .catchUp].find? fun n =>
    (s.link.raised &&& s.link.mask).getLsbD (noticeBit n)

/-- While the desk-link transmitter is idle it begins the next waiting reply, whose flags take the overrun condition
(R183), or else the next enabled notice, whose kind leaves the pending set (R187, R188). -/
def settleLink (s : State) : State :=
  match s.link.tx, s.link.replies, nextNotice s with
  | .idle, r :: _, _ =>
    { s with link := { s.link with tx := .reply (replyBytes s.link.overrun r), overrun := false } }
  | .idle, [], some n =>
    { s with link := { s.link with
        tx := .notice (noticeBytes n s.link.faultReason)
        raised := s.link.raised &&& ~~~(BitVec.twoPow 7 (noticeBit n)) } }
  | _, _, _ => s

/-! ### The form of a step -/

/-- Both transmitters take up what they may begin. -/
def settle (s : State) : State := settleLink (settleTx s)

/-- A command's meaning from its effect: nothing happens while RESET holds the part (R181), and nothing happens where
the command's occasion does not stand (log entry 2, the effect is then `none`). -/
def event (effect : State → Option State) (s : State) : Host.Outcome State Fault Refusal :=
  .next (if s.held then s else
    match effect s with
    | some t => settle t
    | none => s)

/-- An effect with its occasion. -/
def occasion (c : Bool) (t : State) : Option State := if c then some t else none

end Sys2Proof.Machine
end

