-- ==== Sys2Proof/Machine/Receive.lean ====
section
/-! DEFINITION. The receive store: the shape tests (02, 2.5), the veto decision, the take, the receive queue and the
health effects of the verdict (04_receiving_and_line_health.md). -/

namespace Sys2Proof.Machine

/-! ### Shape tests (R29) -/

/-- The kind that a frame's characters name, once its kind byte is read (R27). -/
def kindRead (chars : List Byte) : Option Kind := if chars.length ≤ 4 then none else kindOfCode (byteAt chars 4)

/-- The tests at the kind byte: KIND, or the class that the kind requires (R29). -/
def kindFaults (chars : List Byte) : List Cause :=
  match kindOfCode (byteAt chars 4) with
  | none => [.kind]
  | some k => if keyClass (keyOfBytes chars) = kindClass k then [] else [.shape]

/-- The tests at the length byte: LENGTH, or a length the kind does not allow (R29). -/
def lengthFaults (chars : List Byte) : List Cause :=
  if Config.longestBody < numAt chars 5 then [.length]
  else match kindOfCode (byteAt chars 4) with
    | none => []
    | some k => if numAt chars 5 ∈ kindLengths k then [] else [.shape]

/-- The test at position 9: the seat count of a TALLY of an allowed length (R29). -/
def tallyFaults (chars : List Byte) : List Cause :=
  let s := numAt chars 9
  if kindOfCode (byteAt chars 4) = some .tally ∧ numAt chars 5 ∈ kindLengths .tally
      ∧ (s = 0 ∨ 8 < s ∨ numAt chars 5 ≠ tallyLength s) then [.shape] else []

/-- The check read differs from the check computed over key, kind, length and body (R28, R29). -/
def checkFaults (chars : List Byte) : List Cause :=
  let b := numAt chars 5
  if chars.length = 8 + b ∧ bytes2 (crc (chars.take (6 + b))) ≠ chars.drop (6 + b) then [.check] else []

/-- The faults found at the character that completes last in `chars`, in the order of R29. CHECK comes after FRAMING
at one position: DEDUCED (log entry 7). -/
def faultsAt (chars : List Byte) (framing : Bool) : List FaultMark :=
  let p := chars.length - 1
  let causes := (if framing then [Cause.framing] else [])
    ++ (if p = 4 then kindFaults chars else [])
    ++ (if p = 5 then lengthFaults chars else [])
    ++ (if p = 9 then tallyFaults chars else [])
    ++ (if 5 < p then checkFaults chars else [])
  causes.map fun c => { cause := c, position := p }

/-- A character read into a frame, with the faults found at it (R7, R29). -/
def readChar (f : Partial) (char : Byte) (framing : Bool) : Partial :=
  let chars := f.chars ++ [char]
  { chars := chars, faults := f.faults ++ faultsAt chars framing }

/-- The extent is unknown once the length byte has a framing fault or is above 26 (R7). -/
def extentLost (f : Partial) (framing : Bool) : Bool :=
  decide (f.chars.length = 6) && (framing || decide (Config.longestBody < numAt f.chars 5))

/-- The last character of the check has completed (R7). -/
def extentReached (f : Partial) : Bool := decide (6 < f.chars.length) && decide (f.chars.length = 8 + numAt f.chars 5)

/-! ### The decision at the end of the check (R59, R67) -/

/-- The veto decision on a frame followed to its check (R59). -/
def decideVeto (f : Partial) (s : State) : Decision :=
  if f.faults ≠ [] then .faultVeto
  else if s.store.queue.length < Config.receivePlaces then .noVeto
  else if s.store.busyRun < Config.busyRunLimit then .busyVeto
  else .letPass

/-- The window opens with its decision; whether it is driven is fixed now by the permission of R15, and a driven busy
veto counts in the run (R59, R67). -/
def openWindow (f : Partial) (d : Decision) (s : State) : State :=
  { s with
    line := { s.line with rx := .window { frame := f, decision := d, driven := mayVeto s, held := none } }
    store := { s.store with busyRun := if d = .busyVeto ∧ mayVeto s then s.store.busyRun + 1 else s.store.busyRun } }

/-- The station drives the fault half (R15). -/
def Window.drivesFault (w : Window) : Bool := w.driven && decide (w.decision = .faultVeto)

/-- The station drives the busy half (R15). -/
def Window.drivesBusy (w : Window) : Bool :=
  w.driven && (decide (w.decision = .faultVeto) || decide (w.decision = .busyVeto))

/-- The verdict read from the two halves (R16). -/
def readVerdict (faultHalf busyHalf : Bool) : Verdict :=
  if faultHalf then .faultVetoed else if busyHalf then .busyVetoed else .taken

/-! ### Taking a frame (R60 to R65, R68, R75) -/

/-- The place for a taken frame: a ROLL or HELLO only claims it (R63, R65). -/
def placeFor (k : Kind) (chars : List Byte) (stamp : Stamp) : RxEntry :=
  { kind := k, key := keyOfBytes chars, body := (chars.drop 6).take (numAt chars 5), stamp := stamp, marks := []
    tailCut := false, claimed := k.hasTail }

/-- The frame is stored, or its place claimed, and the run count becomes 0; or, with no place free, it is dropped and
adrift is set (R64). -/
def storeFrame (f : RxEntry) (s : State) : State :=
  if s.store.queue.length < Config.receivePlaces then
    { s with store := { s.store with queue := s.store.queue ++ [f], busyRun := 0 } }
  else setAdrift s

/-- The twin test of a take (R75). -/
def twinTest (own : Bool) (key : Key) (s : State) : State :=
  if keyStation key = s.straps.station ∧ !own then setTwin key s else s

/-- The take (R60): twin test, then the health count, then the store. -/
def takeFrame (own : Bool) (f : Partial) (stamp : Stamp) (s : State) : State :=
  match kindRead f.chars with
  | none => s
  | some k => storeFrame (placeFor k f.chars stamp) (subHealth (twinTest own (keyOfBytes f.chars) s))

/-- The outcome of the own frame in flight, its health effect first (R49, R69, R16). -/
def ownOutcome (v : Verdict) (s : State) : State :=
  match v with
  | .taken => delivered s
  | .faultVetoed => failed (addHealth Config.ownFailureCost s)
  | .busyVetoed => failed s

/-- The faults found in a frame, at its verdict (R61): recorded, and counted once, but not counted in an own frame in
flight, and neither in one in which the own transmitter was disturbed. -/
def faultsFound (own : Bool) (f : Partial) (s : State) : State :=
  match f.faults with
  | [] => s
  | m :: _ =>
    if s.line.disturbed then s
    else
      let noted := recordFault m.cause m.position (keyOfBytes f.chars) s
      if own then noted else addHealth 1 noted

/-- A claimed place is filled at the end of the tail (R65). -/
def fillClaim (marks : List Byte) (cut : Bool) (s : State) : State :=
  { s with store := { s.store with queue := s.store.queue.map fun f =>
      if f.claimed then { f with marks := marks, tailCut := cut, claimed := false } else f } }

/-- The station gives a mark in the tail (R18). -/
def givesMark (w : Window) (s : State) : Bool := maySend s && decide (w.decision ≠ .faultVeto)

/-- After the verdict the receiver passes to TAIL behind a taken ROLL or HELLO, and otherwise to WAIT-IDLE; a
transmitter that reported an outcome is free, and a station that gives a mark passes to MARK (R16, R18). -/
def leaveWindow (v : Verdict) (w : Window) (s : State) : State :=
  let tx := if s.line.tx = .awaitVerdict then .silent else s.line.tx
  match v, kindRead w.frame.chars with
  | .taken, some k =>
    if k.hasTail then
      let mine := if givesMark w s then some (markByte s.straps.station s.straps.role) else none
      { s with line := { s.line with
          rx := .tail { marks := [], mine := mine, before := none }
          disturbed := false
          tx := if givesMark w s then .mark else tx } }
    else { s with line := { s.line with rx := .waitIdle, disturbed := false, tx := tx } }
  | _, _ => { s with line := { s.line with rx := .waitIdle, disturbed := false, tx := tx } }

/-- The own frame is in flight and its verdict awaited (R62). -/
def awaitsVerdict (s : State) : Bool := decide (s.line.tx = .awaitVerdict) && (inFlight? s).isSome

/-- The verdict acted on, with the reading captured at the window's end (R16, R60, R61, R68). -/
def actVerdict (v : Verdict) (w : Window) (stamp : Stamp) (s : State) : State :=
  let own := awaitsVerdict s
  let reported := if own then ownOutcome v s else s
  let counted := faultsFound own w.frame reported
  let settled :=
    if v ≠ .taken then counted
    else if w.decision = .faultVeto then setAdrift counted
    else takeFrame own w.frame stamp counted
  leaveWindow v w settled

end Sys2Proof.Machine
end

