-- ==== Sys2Proof/Machine/Line.lean ====
section
/-! DEFINITION. The line interface: the commands that the theatre line brings (01_the_theatre_line.md). -/

namespace Sys2Proof.Machine

/-- The receiver's state. -/
def setRx (rx : Receiver) (s : State) : State := { s with line := { s.line with rx := rx } }

/-- The line has gone dominant: IDLE no longer holds and its stretch has ended (R4, R173). A stuck line stays
stuck until it returns to recessive (R23). -/
def goDominant (s : State) : State :=
  if s.line.level = .stuck then s
  else { s with line := { s.line with level := .unsettled, idleSince := none } }

/-! ### The quiet line (R4, R9, R10, R72) -/

/-- The receiver is one that may see the line become IDLE: a frame or window being followed ends first by its missing
start bit or its verdict (R8, R16), and a tail overrides IDLE (R20). -/
def awaitsIdle : Receiver → Bool
  | .waitIdle | .hunt | .syn1 => true
  | _ => false

/-- The station is driving or following its own frame or pulse, so the line is not quiet. -/
def TxState.isBusy : TxState → Bool
  | .arbitrate | .send | .awaitVerdict | .mark | .clear => true
  | _ => false

/-- IDLE (R4, R6, R9, R173). R6 moves WAIT-IDLE to HUNT and says nothing of the other two: DEDUCED (log entry 5),
unsafe, a receiver in SYN-1 goes on waiting for the second SYN. -/
def idleEffect (s : State) : Option State :=
  occasion ((decide (s.line.level = .unsettled) || decide (s.line.level = .pulse)) && !s.line.fault
      && awaitsIdle s.line.rx && !s.line.tx.isBusy)
    { s with
      line := { s.line with
        level := .idle, idleSince := some s.clock.now, disturbed := false
        rx := if s.line.rx = .waitIdle then .hunt else s.line.rx }
      roster := { s.roster with watchFired := false } }

/-- The receiver at a start edge that is not joined. At a station that holds an entry ready it follows the frame (R9):
one in WAIT-IDLE passes to HUNT, where the frame's first SYN is its next character, and one anywhere else is there or
at work already. R9 says so of an old edge; DEDUCED (log entry 34), unsafe: the same holds of a fresh edge that R10 or
an empty offer keeps it from joining, and a station with no entry ready waits in WAIT-IDLE for IDLE, as R6 says.
DESIGN CHOICE (log entry 35), unsafe: the command does not say whether the edge opens a frame or is a later character's
start bit in traffic under way, and every edge it reports is taken as opening one. -/
def followEdge (s : State) : State :=
  if (s.line.tx = .ready ∨ s.line.tx = .defer) ∧ s.line.rx = .waitIdle then setRx .hunt s else s

/-- START_EDGE_SEEN (R9, R10): a station with an entry ready joins a fresh edge, unless it is QUIET or is following a
frame, a window or a tail; otherwise its entry waits for the next IDLE and its receiver follows the frame. One in DEFER
returns to READY and counts its 8 Tc again. DESIGN CHOICE (log entries 12, 35): the operand says whether the edge is
fresh, safe, and the edge is taken as one that opens a frame, unsafe. -/
def startEdgeEffect (fresh : Bool) (s : State) : Option State :=
  let seen := goDominant s
  let joins := fresh && decide (s.line.tx = .ready) && decide (s.store.health ≠ .quiet) && maySend s
    && awaitsIdle s.line.rx
  occasion (decide (s.line.level ≠ .stuck)) <|
    if joins then
      match offered s with
      | some e => startFrame e seen
      | none => followEdge seen
    else followEdge seen

/-- QUIET_START (R10): DEFER ends and the entry that is then lowest starts. -/
def quietStartEffect (s : State) : Option State :=
  occasion (decide (s.line.tx = .defer) && decide (s.store.health = .quiet) && lineIdle s && maySend s) <|
    match offered s with
    | some e => startFrame e s
    | none => setTx .silent s

/-- An OFF station counts a LONG IDLE, and recovers at the 32nd (R72). -/
def countLongIdle (s : State) : State :=
  if s.store.health ≠ .off then s
  else if s.store.longIdles + 1 < Config.offRecovery then
    { s with store := { s.store with longIdles := s.store.longIdles + 1 } }
  else setHealth .active { s with store := { s.store with count := 0, longIdles := 0 } }

/-- LONG_IDLE (R4): reported once in each unbroken recessive stretch. -/
def longIdleEffect (s : State) : Option State :=
  occasion (decide (s.line.level = .idle)) (countLongIdle { s with line := { s.line with level := .longIdle } })

/-! ### Characters (R6 to R8) -/

/-- One more character of the own frame has gone out: after the key the transmitter passes to SEND (R11), after the
check to AWAIT-VERDICT. -/
def countSent (s : State) : State :=
  match s.line.tx with
  | .arbitrate | .send =>
    let sent := s.line.sent + 1
    let tx := if s.line.frame.length ≤ sent then .awaitVerdict else if 6 ≤ sent then .send else .arbitrate
    { s with line := { s.line with sent := sent, tx := tx } }
  | _ => s

/-- The hunt is abandoned without report (R6). -/
def abandonHunt (s : State) : State := { s with line := { s.line with rx := .waitIdle, disturbed := false } }

/-- A character of a frame of known or not yet known extent (R7). -/
def frameChar (f : Partial) (char : Byte) (framing : Bool) (s : State) : State :=
  let g := readChar f char framing
  if extentLost g framing then setRx (.adriftExtent g) s
  else if extentReached g then openWindow g (decideVeto g s) s
  else setRx (.frame g) s

/-- What the receiver makes of a character (R6, R7). In WAIT-IDLE, WINDOW and TAIL it is no character of a frame, and
in ADRIFT-EXTENT only its end is waited for (R8). -/
def receiveChar (char : Byte) (framing : Bool) (s : State) : State :=
  let clean := decide (char = synByte) && !framing
  match s.line.rx with
  | .hunt => if clean then setRx .syn1 s else abandonHunt s
  | .syn1 =>
    if clean then setRx (.frame { chars := [], faults := [] }) s
    else setRx (.adriftExtent { chars := [], faults := [{ cause := .syn, position := 0 }] }) s
  | .frame f => frameChar f char framing s
  | _ => s

/-- CHARACTER_COMPLETE (R2, R6, R7). -/
def characterEffect (char : Byte) (framing : Bool) (s : State) : Option State :=
  occasion (decide (s.line.level ≠ .stuck)) (receiveChar char framing (countSent (goDominant s)))

/-- MISSING_START_BIT (R8): the frame is taken as ended, and a fault veto is driven where R15 permits. In SYN-1 the
manual gives no effect: DEDUCED, none (log entry 5). -/
def missingStartEffect (s : State) : Option State :=
  match s.line.rx with
  | .frame f => some (openWindow f .faultVeto s)
  | .adriftExtent f => some (openWindow f .faultVeto s)
  | _ => none

/-! ### The own frame (R11, R12) -/

/-- LOST (R11, R48). -/
def lostEffect (s : State) : Option State :=
  occasion (decide (s.line.tx = .arbitrate)) (setTx .silent (returned s))

/-- The position of the character being sent, 0 for a SYN (R77). -/
def sendingPosition (s : State) : Nat := s.line.sent - 2

/-- The key bytes read back before the disturbance, 00h beyond (R77): they equal those sent, since another level
would have ended the frame. DEDUCED (log entry 11): whole characters only. -/
def keyReadBack (s : State) : Key := keyOfBytes (((s.line.frame.take s.line.sent).drop 2).take 4)

/-- DISTURBED (R12, R49, R61, R69, R77): the count has changed by the time the queue acts on the outcome. -/
def disturbedEffect (s : State) : Option State :=
  occasion (decide (s.line.tx = .arbitrate) || decide (s.line.tx = .send)) <|
    let noted := recordFault .disturbed (sendingPosition s) (keyReadBack s) s
    let charged := failed (addHealth Config.ownFailureCost noted)
    { charged with line := { charged.line with tx := .silent, disturbed := true } }

/-! ### The verdict (R16, R17) -/

/-- VERDICT: the window ends. What this station drives is on the line too (R1, R15; log entry 13). A line still
dominant holds the verdict with its reading (R17, R60). -/
def verdictEffect (faultHalf busyHalf stillDominant : Bool) (s : State) : Option State :=
  match s.line.rx with
  | .window w =>
    let v := readVerdict (faultHalf || w.drivesFault) (busyHalf || w.drivesBusy)
    occasion w.held.isNone <|
      if stillDominant || decide (s.line.tx = .clear) then
        setRx (.window { w with held := some { verdict := v, stamp := s.clock.now } }) s
      else actVerdict v w s.clock.now s
  | _ => none

/-- HELD_VERDICT_ACTED: the line returned to recessive before 6 Tc (R17). -/
def heldVerdictEffect (s : State) : Option State :=
  match s.line.rx with
  | .window w =>
    match w.held with
    | some h => occasion (decide (s.line.tx ≠ .clear)) (actVerdict h.verdict w h.stamp s)
    | none => none
  | _ => none

/-! ### The tail (R18 to R20) -/

/-- A marking transmitter is free once the tail has ended (R20). -/
def freeMark (tx : TxState) : TxState := if tx = .mark then .silent else tx

/-- The tail ends: the frame fills its claimed place with the marks and the tail-cut flag (R20, R65). -/
def endTail (marks : List Byte) (cut : Bool) (next : Receiver) (s : State) : State :=
  let filled := fillClaim marks cut s
  { filled with line := { filled.line with rx := next, disturbed := false, tx := freeMark filled.line.tx } }

/-- What is left to give of the own mark after a slot whose character reads `char` (R19). A lower character is a
lost slot: the mark is kept where the loss came in the station bits, and withdrawn where it came in the code bits. An
equal one is the mark given, or broken by a framing fault, and a higher one disturbs it: no more is given. -/
def contestMark (char mine : Byte) : Option Byte :=
  if char < mine ∧ upperStation char ≠ upperStation mine then some mine else none

/-- TAIL_SLOT (R19, R20). -/
def tailSlotEffect (char : Byte) (framing : Bool) (s : State) : Option State :=
  match s.line.rx with
  | .tail t =>
    let mine := t.mine.bind (contestMark char)
    if framing then some (setRx (.tail { t with mine := mine, before := none }) s)
    else if t.before = some char then
      some (endTail t.marks.dropLast true (.frame { chars := [], faults := [] }) s)
    else
      let marks := t.marks ++ [char]
      if Config.tailMarks ≤ marks.length then some (endTail marks false .waitIdle s)
      else some (setRx (.tail { marks := marks, mine := mine, before := some char }) s)
  | _ => none

/-- TAIL_END_EMPTY_SLOT (R20). -/
def tailEndEffect (s : State) : Option State :=
  match s.line.rx with
  | .tail t => some (endTail t.marks false .waitIdle s)
  | _ => none

/-! ### The clear pulse and the stuck line (R21 to R23) -/

/-- The own frame is reported CLEARED, if one is in flight (R22, R48). -/
def clearOwn (s : State) : State := returned s

/-- CLEAR_PULSE (R22): frames, held verdicts and tails end; the own pulse goes on. -/
def clearPulseEffect (s : State) : Option State :=
  let cleared := clearOwn s
  let ended := match cleared.line.rx with
    | .tail t => endTail t.marks true .waitIdle cleared
    | _ => cleared
  occasion (decide (s.line.level ≠ .stuck))
    { ended with line := { ended.line with
        level := .pulse, idleSince := none, rx := .waitIdle, disturbed := false
        tx := if s.line.tx = .clear then .clear else .silent } }

/-- CLEAR_PULSE_END (R21). -/
def clearPulseEndEffect (s : State) : Option State :=
  occasion (decide (s.line.tx = .clear)) (setTx .silent s)

/-- STUCK_LINE (R23, R69, R77): once for each unbroken run, which is a recognised clear pulse by then. -/
def stuckLineEffect (s : State) : Option State :=
  occasion (decide (s.line.level = .pulse)) <|
    raiseFault .stuck
      (addHealth 1 (recordFault .stuck 0 0 { s with line := { s.line with level := .stuck, fault := true } }))

/-- LINE_FAULT_CLEAR (R23). -/
def lineFaultClearEffect (s : State) : Option State :=
  occasion s.line.fault { s with line := { s.line with level := .unsettled, fault := false } }

/-! ### The commands -/

/-- IDLE. -/
def execIdle (s : State) : Host.Outcome State Fault Refusal := event idleEffect s

/-- START_EDGE_SEEN. -/
def execStartEdgeSeen (fresh : Bool) (s : State) : Host.Outcome State Fault Refusal := event (startEdgeEffect fresh) s

/-- QUIET_START. -/
def execQuietStart (s : State) : Host.Outcome State Fault Refusal := event quietStartEffect s

/-- LONG_IDLE. -/
def execLongIdle (s : State) : Host.Outcome State Fault Refusal := event longIdleEffect s

/-- CHARACTER_COMPLETE. -/
def execCharacterComplete (char : Byte) (framing : Bool) (s : State) : Host.Outcome State Fault Refusal :=
  event (characterEffect char framing) s

/-- MISSING_START_BIT. -/
def execMissingStartBit (s : State) : Host.Outcome State Fault Refusal := event missingStartEffect s

/-- LOST. -/
def execLost (s : State) : Host.Outcome State Fault Refusal := event lostEffect s

/-- DISTURBED. -/
def execDisturbed (s : State) : Host.Outcome State Fault Refusal := event disturbedEffect s

/-- VERDICT. -/
def execVerdict (faultHalf busyHalf stillDominant : Bool) (s : State) : Host.Outcome State Fault Refusal :=
  event (verdictEffect faultHalf busyHalf stillDominant) s

/-- HELD_VERDICT_ACTED. -/
def execHeldVerdictActed (s : State) : Host.Outcome State Fault Refusal := event heldVerdictEffect s

/-- TAIL_SLOT. -/
def execTailSlot (char : Byte) (framing : Bool) (s : State) : Host.Outcome State Fault Refusal :=
  event (tailSlotEffect char framing) s

/-- TAIL_END_EMPTY_SLOT. -/
def execTailEndEmptySlot (s : State) : Host.Outcome State Fault Refusal := event tailEndEffect s

/-- CLEAR_PULSE. -/
def execClearPulse (s : State) : Host.Outcome State Fault Refusal := event clearPulseEffect s

/-- CLEAR_PULSE_END. -/
def execClearPulseEnd (s : State) : Host.Outcome State Fault Refusal := event clearPulseEndEffect s

/-- STUCK_LINE. -/
def execStuckLine (s : State) : Host.Outcome State Fault Refusal := event stuckLineEffect s

/-- LINE_FAULT_CLEAR. -/
def execLineFaultClear (s : State) : Host.Outcome State Fault Refusal := event lineFaultClearEffect s

end Sys2Proof.Machine
end

