-- ==== Sys2Proof/Machine/Timer.lean ====
section
/-! DEFINITION. The round clock: the theatre clock, the question timer, placements, the warn and expiry events and
the countdown (05, 5.1 and 5.2). -/

namespace Sys2Proof.Machine

/-! ### Stamps (R80) -/

/-- `t` is at or after `u` when their difference modulo 2^32 is below 2^31 (R80). -/
def atOrAfter (t u : Stamp) : Bool := decide ((t - u).toNat < 2 ^ 31)

/-- `t` is before `u` (R80). -/
def before (t u : Stamp) : Bool := !atOrAfter t u

/-- A whole number of milliseconds as a difference of stamps. -/
abbrev ms (n : Nat) : Stamp := BitVec.ofNat 32 n

/-- One millisecond of the station's oscillator (R78). The scan of the new value has not fallen yet (R85). -/
def tickClock (s : State) : State := { s with clock := { s.clock with now := s.clock.now + 1, scanned := 0 } }

/-! ### The timer's instants and placements -/

/-- origin + current offset + W_ms (R83). -/
def Timer.expiryInstant (t : Timer) : Stamp := t.origin + t.offset + ms t.limit

/-- origin + current offset + warn point, where there is one (R82). -/
def Timer.warnInstant (t : Timer) : Option Stamp := t.warnPoint.map fun p => t.origin + t.offset + ms p

/-- Where a stamp falls (R80). -/
inductive Placement where
  | before
  | within (e : Nat)
  | halted
  | late
  deriving DecidableEq, Repr

/-- An IN placement, given as LATE where e is W_ms or more (R80). -/
def Timer.inOrLate (t : Timer) (x offset : Stamp) : Placement :=
  let e := (x - t.origin - offset).toNat
  if t.limit ≤ e then .late else .within e

/-- The stamp falls in the current stretch (R80). -/
def Timer.inCurrent (t : Timer) (x : Stamp) : Bool :=
  atOrAfter x t.start &&
    match t.cond, t.haltStamp with
    | .halted, some h => Machine.before x h
    | .stopped, some h => Machine.before x h
    | _, _ => true

/-- The placement of a stamp; none is made in CLEAR (R80). -/
def Timer.place (t : Timer) (x : Stamp) : Option Placement :=
  if t.cond = .clear then none
  else if Machine.before x t.origin then some .before
  else if t.inCurrent x then some (t.inOrLate x t.offset)
  else match t.previous with
    | some p =>
      if atOrAfter x p.start && Machine.before x p.stop then some (t.inOrLate x p.offset) else some .halted
    | none => some .halted

/-- The elapsed time of the question (R80). -/
def Timer.elapsed (t : Timer) (now : Stamp) : Nat :=
  match t.cond with
  | .clear => 0
  | .running => if t.due then t.limit else (now - t.origin - t.offset).toNat
  | .halted | .stopped => ((t.haltStamp.getD t.origin) - t.origin - t.offset).toNat
  | .expired => t.limit

/-- The countdown in seconds, none while CLEAR (R84): ceil((W_ms − elapsed) / 1000). -/
def Timer.countdown (t : Timer) (now : Stamp) : Option Nat :=
  match t.cond with
  | .clear => none
  | .expired => some 0
  | .running => if t.due then some 0 else some ((t.limit - t.elapsed now + 999) / 1000)
  | .halted | .stopped => some ((t.limit - t.elapsed now + 999) / 1000)

/-! ### The five requests (R81) -/

/-- Warned or due at once, where the clock has already passed the warn or the expiry instant (R81, R111; for the
warning of a RESUME, DEDUCED, log entry 29). -/
def Timer.catchUpTo (now : Stamp) (t : Timer) : Timer :=
  { t with
    warned := t.warned || (match t.warnInstant with
      | some w => atOrAfter now w
      | none => false)
    due := atOrAfter now t.expiryInstant }

/-- The warn point from W_ms and L (R82). -/
def warnPointOf (windowMs lead : Nat) : Option Nat :=
  if lead = 0 then none
  else if lead * 1000 < windowMs then some (windowMs - lead * 1000)
  else some 0

/-- START (R81, R82): warned is set at once where L is W or more. -/
def Timer.begin (stamp : Stamp) (windowMs lead : Nat) (now : Stamp) : Timer :=
  Timer.catchUpTo now
    { cond := .running, origin := stamp, limit := windowMs, warnPoint := warnPointOf windowMs lead
      warned := decide (0 < lead ∧ windowMs ≤ lead * 1000)
      start := stamp, offset := 0, previous := none, haltStamp := none, due := false }

/-- HALT (R81): a due expiry is withdrawn, and a warning begun after the halt stamp undone. -/
def Timer.halt (stamp : Stamp) (t : Timer) : Timer :=
  if t.cond = .running then
    { t with
      cond := .halted, haltStamp := some stamp, due := false
      warned := t.warned && (match t.warnInstant with
        | some w => atOrAfter stamp w
        | none => true) }
  else t

/-- RESUME (R81): the stretch is remembered and a new one begins with the halted time added. -/
def Timer.resume (stamp now : Stamp) (t : Timer) : Timer :=
  match t.cond, t.haltStamp with
  | .halted, some h =>
    Timer.catchUpTo now
      { t with
        cond := .running, previous := some { start := t.start, offset := t.offset, stop := h }
        start := stamp, offset := t.offset + (stamp - h), haltStamp := none }
  | _, _ => t

/-- STOP (R81). -/
def Timer.stop (stamp : Stamp) (t : Timer) : Timer :=
  match t.cond with
  | .running => { t with cond := .stopped, haltStamp := some stamp, due := false }
  | .halted => { t with cond := .stopped, due := false }
  | .expired => { t with cond := .stopped, haltStamp := some t.expiryInstant, due := false }
  | _ => t

/-- The condition becomes EXPIRED as the round engine takes the expiry event (R83). -/
def Timer.expire (t : Timer) : Timer := { t with cond := .expired, due := false }

/-- Replace the question timer. -/
def setTimer (t : Timer) (s : State) : State := { s with clock := { s.clock with timer := t } }

/-- CLEAR (R81): every field takes its reset value, and the theatre clock runs on. -/
def clearTimer (s : State) : State := setTimer timerStart s

/-! ### The warn and expiry instants (R82, R83) -/

/-- The clock has reached the warn instant of a running timer that has not warned (R82). -/
def warnReached (s : State) : Bool :=
  decide (s.clock.timer.cond = .running) && !s.clock.timer.warned &&
    match s.clock.timer.warnInstant with
    | some w => atOrAfter s.clock.now w
    | none => false

/-- WARN (R82). -/
def warnEffect (s : State) : Option State :=
  occasion (warnReached s) (setTimer { s.clock.timer with warned := true } s)

/-- EXPIRY_DUE (R83). -/
def expiryDueEffect (s : State) : Option State :=
  occasion (decide (s.clock.timer.cond = .running) && !s.clock.timer.due
      && atOrAfter s.clock.now s.clock.timer.expiryInstant)
    (setTimer { s.clock.timer with due := true } s)

/-- WARN. -/
def execWarn (s : State) : Host.Outcome State Fault Refusal := event warnEffect s

/-- EXPIRY_DUE. -/
def execExpiryDue (s : State) : Host.Outcome State Fault Refusal := event expiryDueEffect s

end Sys2Proof.Machine
end

