-- ==== Sys2Proof/Machine/Panel.lean ====
section
/-! DEFINITION. The seat panel: the scan, debounce, the press latches and the refusal flash, and the pieces of round
state it keeps for the round engine (05, 5.3 and 5.4). -/

namespace Sys2Proof.Machine

/-- The place of a key in the key order buzz, A, B, C, D (R87). -/
def keyPlace : PadKey → Fin 5
  | .buzz => 0
  | .choice c => ⟨c.val + 1, by omega⟩

/-- The keys in key order (R87). -/
def allKeys : List PadKey := [.buzz, .choice 0, .choice 1, .choice 2, .choice 3]

/-- Change what the panel holds for a seat. -/
def updateSeat (seat : Seat) (f : SeatState → SeatState) (s : State) : State :=
  { s with panel := { s.panel with seats := putAt s.panel.seats seat (f s.panel.seats[seat]) } }

/-- Change what the panel holds for every seat. -/
def updateSeats (f : SeatState → SeatState) (s : State) : State :=
  { s with panel := { s.panel with seats := onEach f s.panel.seats } }

/-- The refusal flash: 500 ms from now (R93). -/
def flashSeat (seat : Seat) (s : State) : State :=
  updateSeat seat (fun p => { p with flash := some (s.clock.now + ms Config.flashTime) }) s

/-- A seat is fitted: below the strapped seat count (R85). -/
def fitted (s : State) (seat : Seat) : Bool := decide (seat.val < s.straps.seatCount)

/-- Into stamp order at the back, and into key order among the presses of one scan (R87). -/
def insertPress (p : Press) : List Press → List Press
  | [] => [p]
  | h :: t => if p.stamp = h.stamp ∧ keyPlace p.key < keyPlace h.key then p :: h :: t else h :: insertPress p t

/-- An accepted press joins its seat's latch list with the scan's stamp. Of more than four the last is lost, with a
refusal flash (R86, R87). DESIGN CHOICE (log entry 10), unsafe: the presses of one clock value are those of one scan,
however they were reported, so the last in key order is lost. -/
def latchPress (seat : Seat) (key : PadKey) (s : State) : State :=
  let joined := updateSeat seat (fun p => { p with
    latch := (insertPress { key := key, stamp := s.clock.now } p.latch).take Config.latchPlaces }) s
  if s.panel.seats[seat].latch.length < Config.latchPlaces then joined else flashSeat seat joined

/-- The debounce of a key. -/
def keyState (s : State) (seat : Seat) (key : PadKey) : KeyState := s.panel.seats[seat].keys[keyPlace key]

/-- Replace the debounce of a key. -/
def setKey (seat : Seat) (key : PadKey) (k : KeyState) (s : State) : State :=
  updateSeat seat (fun p => { p with keys := putAt p.keys (keyPlace key) k }) s

/-- The third opposite reading changes the state, and the count returns to 0; a press is latched (R86). -/
def acceptKey (seat : Seat) (key : PadKey) (s : State) : State :=
  let k := keyState s seat key
  let changed := setKey seat key { pressed := !k.pressed, run := 0 } s
  if k.pressed then changed else latchPress seat key changed

/-- The bit of a key in the readings of a scan (R85). -/
def keyBit (seat : Seat) (key : PadKey) : Nat := 5 * seat.val + (keyPlace key).val

/-- The key has had its reading at this clock value (R85). -/
def isRead (s : State) (seat : Seat) (key : PadKey) : Bool := s.clock.scanned.getLsbD (keyBit seat key)

/-- The keys that have had their reading at this clock value. -/
def setScanned (keys : BitVec 40) (s : State) : State := { s with clock := { s.clock with scanned := keys } }

/-- One reading of one key (R86). -/
def scanKey (readings : BitVec 40) (at_ : Seat × PadKey) (s : State) : State :=
  let k := keyState s at_.1 at_.2
  let down := readings.getLsbD (keyBit at_.1 at_.2)
  if down = k.pressed then setKey at_.1 at_.2 { k with run := 0 } s
  else if k.run < 2 then setKey at_.1 at_.2 { k with run := k.run + 1 } s
  else acceptKey at_.1 at_.2 s

/-- The keys of the fitted seats, by seat and then in key order (R85, R87). -/
def fittedKeys (s : State) : List (Seat × PadKey) :=
  (seatsBelow s.straps.seatCount).flatMap fun seat => allKeys.map fun key => (seat, key)

/-- KEY_SCAN: one scan for each value of the theatre clock, reading the keys not yet read at it (R85). DESIGN CHOICE
(log entry 9): a scan after this value's own falls at the next value. A presenter scans no seat (R85); that KEY_SCAN
has its occasion there too is the same entry's DESIGN CHOICE, unsafe: it reads no key, but is the scan of its clock
value. That the scan does its acceptances itself, beside the rows ACCEPTED_PRESS and ACCEPTED_RELEASE, is log entry 10's
DESIGN CHOICE. -/
def keyScanEffect (readings : BitVec 40) (s : State) : Option State :=
  let timed := if s.clock.scanned = BitVec.allOnes 40 then tickClock s else s
  let unread := (fittedKeys timed).filter fun at_ => !isRead timed at_.1 at_.2
  some (unread.foldl (fun s at_ => scanKey readings at_ s) (setScanned (BitVec.allOnes 40) timed))

/-- The key of a fitted seat stands at its second opposite reading in the given state. -/
def atThird (s : State) (seat : Seat) (key : PadKey) (pressed : Bool) : Bool :=
  fitted s seat && decide (keyState s seat key = { pressed := pressed, run := 2 })

/-- The third reading of one key, reported alone. DESIGN CHOICE (log entry 9): of a key already read at this clock
value it falls at the next value, one scan being made for each (R85). -/
def thirdReading (seat : Seat) (key : PadKey) (s : State) : State :=
  let timed := if isRead s seat key then tickClock s else s
  acceptKey seat key (setScanned (timed.clock.scanned ||| BitVec.twoPow 40 (keyBit seat key)) timed)

/-- ACCEPTED_PRESS: the third reading of a released key (R86; log entry 10). -/
def acceptedPressEffect (seat : Seat) (key : PadKey) (s : State) : Option State :=
  occasion (atThird s seat key false) (thirdReading seat key s)

/-- ACCEPTED_RELEASE: the third reading of a pressed key; it latches nothing (R86). -/
def acceptedReleaseEffect (seat : Seat) (key : PadKey) (s : State) : Option State :=
  occasion (atThird s seat key true) (thirdReading seat key s)

/-- REFUSAL_FLASH_END (R93). -/
def flashEndEffect (seat : Seat) (s : State) : Option State :=
  match s.panel.seats[seat].flash with
  | some t => occasion (atOrAfter s.clock.now t) (updateSeat seat (fun p => { p with flash := none }) s)
  | none => none

/-- The oldest press of all the seats' latch lists; equal stamps give the lower seat (R88). -/
def oldestPress (s : State) : Option (Seat × Press) :=
  (List.finRange 8).foldl (fun best seat =>
    match s.panel.seats[seat].latch, best with
    | [], _ => best
    | p :: _, none => some (seat, p)
    | p :: _, some b => if before p.stamp b.2.stamp then some (seat, p) else best) none

/-- A press leaves its latch list when it is taken (R88). -/
def dropPress (seat : Seat) (s : State) : State := updateSeat seat (fun p => { p with latch := p.latch.tail }) s

/-- An OPEN of a new question or a SHOW clears every seat's buzzed flag, chosen answer and correct mark, and the
reveal set (R89 to R92). -/
def clearSeats (s : State) : State :=
  let cleared := updateSeats (fun p => { p with buzzed := false, chosen := none, correct := false }) s
  { cleared with panel := { cleared.panel with reveal := none } }

/-- ACCEPTED_PRESS. -/
def execAcceptedPress (seat : Seat) (key : PadKey) (s : State) : Host.Outcome State Fault Refusal :=
  event (acceptedPressEffect seat key) s

/-- ACCEPTED_RELEASE. -/
def execAcceptedRelease (seat : Seat) (key : PadKey) (s : State) : Host.Outcome State Fault Refusal :=
  event (acceptedReleaseEffect seat key) s

/-- REFUSAL_FLASH_END. -/
def execRefusalFlashEnd (seat : Seat) (s : State) : Host.Outcome State Fault Refusal := event (flashEndEffect seat) s

/-- KEY_SCAN. -/
def execKeyScan (readings : BitVec 40) (s : State) : Host.Outcome State Fault Refusal :=
  event (keyScanEffect readings) s

end Sys2Proof.Machine
end

