-- ==== Sys2Proof/Machine/Score.lean ====
section
/-! DEFINITION. The score unit: seat records, team totals, the arithmetic of awards and penalties, the score pass,
the TALLY overwrite and the standings (09_scores_and_standings.md). -/

namespace Sys2Proof.Machine

/-! ### Attachment and team totals (R154) -/

/-- The roster's entry for a station. -/
def rosterOf (s : State) (st : Station) : RosterEntry := s.roster.entries[st]

/-- The team that a code gives, where it is a team. -/
def teamOf : Option Role → Option Team
  | some (.desk t) => some t
  | _ => none

/-- The team to which a station's seat records are attached (R154). -/
def attachedTeam (s : State) (st : Station) : Option Team := teamOf (rosterOf s st).code

/-- A team total moves by a change (R154). -/
def moveTotal (t : Option Team) (d : Int) (s : State) : State :=
  match t with
  | some t => { s with score := { s.score with totals := putAt s.score.totals t (s.score.totals[t] + d) } }
  | none => s

/-- The sum of the totals of the records that satisfy a test. -/
def sumTotals (p : SeatRecord → Bool) (l : List SeatRecord) : Int := ((l.filter p).map (·.total)).sum

/-! ### Standings (R164, R165) -/

/-- A team has at least one seat record attached to it (R164). -/
def teamListed (s : State) (t : Team) : Bool :=
  s.score.records.any fun r => decide (attachedTeam s r.station = some t)

/-- Into order of total, highest first, equal totals in ascending team number (R164). -/
def insertStanding (x : Team × Int) : List (Team × Int) → List (Team × Int)
  | [] => [x]
  | h :: t => if h.2 < x.2 ∨ (h.2 = x.2 ∧ x.1 < h.1) then x :: h :: t else h :: insertStanding x t

/-- The standings list of the records as they stand, with competition ranks (R164). -/
def standingsOf (s : State) : List Standing :=
  let listed := ((List.finRange 7).filter (teamListed s)).map fun t => (t, s.score.totals[t])
  let sorted := listed.foldr insertStanding []
  sorted.map fun x =>
    { team := x.1, total := x.2, rank := 1 + (sorted.filter fun y => decide (x.2 < y.2)).length }

/-- A recompute; STANDINGS is raised if it changes the list (R164, R165). -/
def recompute (s : State) : State :=
  raiseIf (decide (standingsOf s ≠ s.score.standings)) .standings
    { s with score := { s.score with standings := standingsOf s } }

/-! ### Seat records (R151, R152) -/

/-- Into station and seat order (R151). -/
def insertRecord (r : SeatRecord) : List SeatRecord → List SeatRecord
  | [] => [r]
  | h :: t =>
    if r.station < h.station ∨ (r.station = h.station ∧ r.seat < h.seat) then r :: h :: t
    else h :: insertRecord r t

/-- The record of a seat exists, created where it did not (R152), the standings not yet recomputed. -/
def ensureRecord (st : Station) (seat : Seat) (s : State) : State :=
  match recordOf s st seat with
  | some _ => s
  | none => { s with score := { s.score with records := insertRecord (newRecord st seat) s.score.records } }

/-- The score unit is given a seat: its record is created where it has none, and the list is recomputed then
(R152, R164). -/
def giveSeat (st : Station) (seat : Seat) (s : State) : State :=
  match recordOf s st seat with
  | some _ => s
  | none => recompute (ensureRecord st seat s)

/-- A seat's record replaced. -/
def replaceRecord (st : Station) (seat : Seat) (f : SeatRecord → SeatRecord) (s : State) : State :=
  { s with score := { s.score with records := s.score.records.map fun r =>
      if r.station = st ∧ r.seat = seat then f r else r } }

/-- A seat's total replaced together with its other fields; the attached team moves by the change (R154, R158). -/
def rewriteRecord (st : Station) (seat : Seat) (f : SeatRecord → SeatRecord) (s : State) : State :=
  match recordOf s st seat with
  | some r => moveTotal (attachedTeam s st) ((f r).total - r.total) (replaceRecord st seat f s)
  | none => s

/-! ### The arithmetic (R156 to R158) -/

/-- S = floor(B × (W_ms − e) / (2 × W_ms)) (R156). -/
def speedBonus (base windowMs e : Nat) : Nat := base * (windowMs - e) / (2 * windowMs)

/-- m = 8 + min(s, 4) (R156). -/
def streakFactor (streak : Nat) : Nat := 8 + min streak 4

/-- A = floor((B + S) × m × k / 8) (R156). -/
def awardOf (base windowMs e streak stake : Nat) : Nat :=
  (base + speedBonus base windowMs e) * streakFactor streak * stake / 8

/-- D = P × k (R157). -/
def penaltyOf (penalty stake : Nat) : Nat := penalty * stake

/-- An award or penalty applied to a record: the clamped total, the change called for as the last award (R158). -/
def applyChange (d : Int) (outcome : SeatOutcome) (streak : Nat) (r : SeatRecord) : SeatRecord :=
  { r with total := clampTotal (r.total + d), lastAward := d, outcome := outcome, streak := streak }

/-- The streak after a correct answer, staying at 15 (R158, R159). -/
def raisedStreak (streak : Nat) : Nat := min (streak + 1) Config.streakTop

/-- A correct answer of a seat with the given e (R159, R161). -/
def awardRecord (q : Question) (e : Nat) (r : SeatRecord) : SeatRecord :=
  applyChange (awardOf q.base q.windowMs e r.streak q.stake) .correct (raisedStreak r.streak) r

/-- A wrong buzz answer (R160). -/
def penaliseRecord (q : Question) (r : SeatRecord) : SeatRecord :=
  applyChange (-(penaltyOf q.penalty q.stake : Int)) .wrong 0 r

/-- The floor seat judged CORRECT (R159). -/
def judgeCorrect (q : Question) (b : BuzzEntry) (s : State) : State :=
  recompute (rewriteRecord b.station b.seat (awardRecord q b.e) s)

/-- The floor seat judged WRONG (R160). -/
def judgeWrong (q : Question) (b : BuzzEntry) (s : State) : State :=
  recompute (rewriteRecord b.station b.seat (penaliseRecord q) s)

/-! ### The score pass (R161, R162) -/

/-- The poll record of a seat (R135). -/
def pollOf (s : State) (st : Station) (seat : Seat) : Option PollRecord :=
  s.poll.table.find? fun p => decide (p.station = st) && decide (p.seat = seat)

/-- What the pass makes of a record: the first row of R161's table that applies. -/
def passRecord (q : Question) (set : ChoiceSet) (s : State) (r : SeatRecord) : SeatRecord :=
  match pollOf s r.station r.seat with
  | some p =>
    if inSet set p.choice then awardRecord q p.e r else { r with streak := 0, outcome := .wrong, lastAward := 0 }
  | none =>
    if (rosterOf s r.station).present then { r with streak := 0, outcome := .noAnswer, lastAward := 0 } else r

/-- The pass over every record in station and seat order (R161), the list not yet recomputed. -/
def sweep (q : Question) (set : ChoiceSet) (s : State) : State :=
  s.score.records.foldl (fun t r => rewriteRecord r.station r.seat (passRecord q set s) t) s

/-! ### SHOW and TALLY (R153, R163) -/

/-- The score unit begins the show (R153). -/
def beginScores (s : State) : State :=
  recompute { s with score := { s.score with
    records := (s.score.records.filter fun r => decide (r.station = s.straps.station)).map fun r =>
      newRecord r.station r.seat
    totals := Vector.replicate 7 0 } }

/-- Seat i of a TALLY: the record created where there is none, then given the TALLY's total and streak (R163). -/
def overwriteSeat (st : Station) (body : List Byte) (count : Nat) (s : State) (seat : Seat) : State :=
  rewriteRecord st seat
    (fun r => { r with total := tallyTotal body seat.val, streak := tallyStreak body count seat.val })
    (ensureRecord st seat s)

/-- The overwrite of an accepted TALLY, with one recompute after the last seat (R163). -/
def overwriteSeats (st : Station) (body : List Byte) (s : State) : State :=
  recompute ((seatsBelow (numAt body 3)).foldl (overwriteSeat st body (numAt body 3)) s)

end Sys2Proof.Machine
end

