-- ==== Sys2Proof/Machine/Roster.lean ====
section
/-! DEFINITION. The roster: the station table, the census of a tail, the catch-up record and its occasions
(10_roll_call_and_catch_up.md). -/

namespace Sys2Proof.Machine

/-! ### The station table (R155, R167 to R169) -/

/-- Replace the roster's entry for a station. -/
def setEntry (st : Station) (e : RosterEntry) (s : State) : State :=
  { s with roster := { s.roster with entries := putAt s.roster.entries st e } }

/-- A station's contribution moves from its old team to its new one (R155). -/
def moveContribution (st : Station) (old new : Option Role) (s : State) : State :=
  let sum := sumTotals (fun r => decide (r.station = st)) s.score.records
  moveTotal (teamOf new) sum (moveTotal (teamOf old) (-sum) s)

/-- The code of a station is set. A change goes to the score unit at once, and the list is recomputed (R155, R168).
The own entry stays as strapped (R167). -/
def setCode (st : Station) (code : Role) (s : State) : State :=
  let old := rosterOf s st
  if st = s.straps.station ∨ old.code = some code then s
  else recompute (moveContribution st old.code (some code) (setEntry st { old with code := some code } s))

/-- A station is present; the own entry is left as it is (R167, R168). -/
def setPresent (st : Station) (s : State) : State :=
  if st = s.straps.station then s else setEntry st { rosterOf s st with present := true } s

/-- The team that a frame of a desk kind declares, after R31 (R168). -/
def declaredTeam (f : RxEntry) : Option Team :=
  match f.kind with
  | .buzz | .answer => some (clampTeam (numAt f.body 1))
  | .tally => some (clampTeam (numAt f.body 2))
  | _ => none

/-- The key station of every frame taken (R168). -/
def hearFrame (f : RxEntry) (s : State) : State :=
  let heard := setPresent (keyStation f.key) s
  match declaredTeam f with
  | some t => setCode (keyStation f.key) (.desk t) heard
  | none => heard

/-- One mark of a tail (R169). -/
def applyMark (s : State) (mark : Byte) : State :=
  setCode (upperStation mark) (markRole mark) (setPresent (upperStation mark) s)

/-- Every entry without a mark in a complete tail becomes absent, its code kept; the own entry does not (R169). -/
def markAbsent (marks : List Byte) (s : State) : State :=
  { s with roster := { s.roster with entries := Vector.ofFn fun st =>
      if st = s.straps.station ∨ (marks.any fun m => decide (upperStation m = st)) then s.roster.entries[st]
      else { s.roster.entries[st] with present := false } } }

/-- The census of a tail (R169): its marks in slot order, and then, of a complete tail, the absences. -/
def census (f : RxEntry) (s : State) : State :=
  let marked := f.marks.foldl applyMark s
  if f.tailCut then marked else markAbsent f.marks marked

/-! ### Catch-up (R171 to R178) -/

/-- The occasion of R172: with adrift set and catch-up NONE, a HELLO is requested. -/
def helloOccasion (s : State) : State :=
  if s.store.adrift && decide (s.roster.catchUp.state = .none) then requestHello s else s

/-- The catch-up reaches DONE, whose report clears adrift (R171, R74). -/
def catchUpDone (expected received : List Station) (s : State) : State :=
  clearAdrift (setCatchUp { state := .done, expected := expected, received := received, deadline := none } s)

/-- A WAITING catch-up returns to NONE (R171, R178). -/
def abandonCatchUp (s : State) : State :=
  if s.roster.catchUp.state = .waiting then setCatchUp catchUpNone s else s

/-- A HELLO that is the station's own (R174). -/
def ownHello (f : RxEntry) (s : State) : Bool := decide (keyStation f.key = s.straps.station) && !s.store.twin

/-- Every station that marked with a team code, other than the own station (R174). -/
def markedDesks (f : RxEntry) (s : State) : List Station :=
  ((f.marks.filter fun m => decide (markRole m ≠ .presenter)).map upperStation).dedup.filter fun st =>
    decide (st ≠ s.straps.station)

/-- The conditions under which an own HELLO begins catch-up (R174). -/
def beginsCatchUp (f : RxEntry) (s : State) : Bool :=
  s.store.adrift && decide (s.roster.catchUp.state = .none)
    && (decide (s.engine.state = .standby) || decide (s.engine.state = .closed)) && !f.tailCut

/-- Catch-up begins: WAITING for the marked desks, or DONE at once where there is none (R174). -/
def beginCatchUp (f : RxEntry) (s : State) : State :=
  let expected := markedDesks f s
  if expected = [] then catchUpDone [] [] s
  else setCatchUp { state := .waiting, expected := expected, received := []
                    deadline := some (f.stamp + ms Config.catchUpTime) } s

/-- HELLO taken (R174, R175). -/
def dealHello (f : RxEntry) (s : State) : State :=
  let counted := census f s
  if ownHello f counted then
    if beginsCatchUp f counted then beginCatchUp f counted else counted
  else if counted.straps.role = .presenter then counted else requestTally counted

/-- ROLL taken (R170): another known show refuses it, before any mark is applied. -/
def dealRoll (f : RxEntry) (s : State) : State :=
  if s.engine.showNo ≠ 0 ∧ s.engine.showNo ≠ clampNumber (numAt f.body 0) then refuseFrame f .showDiffers s
  else census f s

/-- A station in STANDBY adopts a TALLY's show and last question and passes to CLOSED, which is an occasion of R172
(R98, R177); ROUND is raised (R100). -/
def adoptShow (f : RxEntry) (s : State) : State :=
  let adopted := raise .round { s with engine := { s.engine with
    showNo := clampNumber (numAt f.body 0), lastNo := numAt f.body 1
    state := if s.engine.state = .standby then .closed else s.engine.state } }
  if s.engine.state = .standby then helloOccasion adopted else adopted

/-- The received set of a WAITING catch-up, and DONE once it holds every expected station (R177). -/
def receiveTally (st : Station) (s : State) : State :=
  let c := s.roster.catchUp
  if c.state ≠ .waiting then s
  else
    let received := if st = s.straps.station ∨ st ∈ c.received then c.received else c.received ++ [st]
    if c.expected.all fun x => decide (x ∈ received) then catchUpDone c.expected received s
    else setCatchUp { c with received := received } s

/-- TALLY taken (R177). -/
def dealTally (f : RxEntry) (s : State) : State :=
  if s.engine.showNo ≠ 0 ∧ s.engine.showNo ≠ clampNumber (numAt f.body 0) then refuseFrame f .showDiffers s
  else
    let known := if s.engine.showNo = 0 then adoptShow f s else s
    receiveTally (keyStation f.key) (overwriteSeats (keyStation f.key) f.body known)

/-- IDLE_WATCH (R173): the IDLE stretch reaches 2000 ms while the station is adrift in STANDBY with no catch-up; once
in a stretch. DEDUCED (log entry 22): only as it reaches 2000 ms. -/
def idleWatchEffect (s : State) : Option State :=
  match s.line.idleSince with
  | some since =>
    occasion (lineIdle s && decide (s.clock.now - since = ms Config.idleWatchTime) && !s.roster.watchFired
        && decide (s.engine.state = .standby) && s.store.adrift && decide (s.roster.catchUp.state = .none))
      (requestHello { s with roster := { s.roster with watchFired := true } })
  | none => none

/-- IDLE_WATCH. -/
def execIdleWatch (s : State) : Host.Outcome State Fault Refusal := event idleWatchEffect s

end Sys2Proof.Machine
end

