-- ==== Sys2Proof/Machine/Round.lean ====
section
/-! DEFINITION. The round engine: its order of work, the question test, opening and ending a question, the show,
halts and expiry, and the catch-up deadline that takes its place among its work (06_questions_and_round_state.md). -/

namespace Sys2Proof.Machine

/-! ### The order of work (R101, R83, R178) -/

/-- The engine's kinds of work. -/
inductive Work where
  | expiry | deadline | press | frame
  deriving DecidableEq, Repr

/-- The frames that wait to be taken: all of the receive queue, less a REVEAL whose pass is in flight (R101, R114). -/
def waiting (s : State) : List RxEntry :=
  if s.engine.pass.isSome then s.store.queue.tail else s.store.queue

/-- The expiry event's instant while it is due (R83). -/
def dueExpiry (s : State) : Option Stamp :=
  if s.clock.timer.cond = .running ∧ s.clock.timer.due then some s.clock.timer.expiryInstant else none

/-- The deadline of a WAITING catch-up, once the clock has reached it (R178). -/
def dueDeadline (s : State) : Option Stamp :=
  match s.roster.catchUp.state, s.roster.catchUp.deadline with
  | .waiting, some d => if atOrAfter s.clock.now d then some d else none
  | _, _ => none

/-- An instant, where there is one, at or before a stamp. -/
def reachedBy (x : Option Stamp) (t : Stamp) : Bool :=
  match x with
  | some i => atOrAfter t i
  | none => false

/-- The expiry event, unless a frame stamped before its instant waits, a claimed place included (R83, R101). -/
def expiryItem (s : State) : Option Stamp :=
  (dueExpiry s).filter fun i => (waiting s).all fun f => !before f.stamp i

/-- The deadline, unless a frame stamped before it waits (R178). -/
def deadlineItem (s : State) : Option Stamp :=
  (dueDeadline s).filter fun i => (waiting s).all fun f => !before f.stamp i

/-- The oldest press, once the clock has passed its stamp and no frame or event at or before it waits (R101). -/
def pressItem (s : State) : Option Stamp :=
  match oldestPress s with
  | some (_, p) =>
    if p.stamp ≠ s.clock.now ∧ atOrAfter s.clock.now p.stamp ∧ !reachedBy (dueExpiry s) p.stamp
        ∧ !reachedBy (dueDeadline s) p.stamp ∧ (waiting s).all (fun f => before p.stamp f.stamp)
    then some p.stamp else none
  | none => none

/-- The front frame, if it is stored and no pass is in flight, after an expiry or deadline at or before its take
stamp (R83, R101, R178). -/
def frameItem (s : State) : Option Stamp :=
  match s.store.queue with
  | f :: _ =>
    if !f.claimed ∧ s.engine.pass.isNone ∧ s.engine.state ≠ .scoring ∧ !reachedBy (dueExpiry s) f.stamp
        ∧ !reachedBy (dueDeadline s) f.stamp
    then some f.stamp else none
  | [] => none

/-- The earlier of two items; of equal stamps the first. -/
def earlier (a b : Option (Work × Stamp)) : Option (Work × Stamp) :=
  match a, b with
  | some x, some y => if before y.2 x.2 then some y else some x
  | some x, none => some x
  | none, y => y

/-- The eligible item with the earliest stamp (R101). An expiry and a deadline of one instant do not touch each
other's state: the expiry goes first (DEDUCED, log entry 17). -/
def nextWork (s : State) : Option Work :=
  (earlier
    (earlier ((expiryItem s).map fun t => (Work.expiry, t)) ((deadlineItem s).map fun t => (Work.deadline, t)))
    (earlier ((pressItem s).map fun t => (Work.press, t)) ((frameItem s).map fun t => (Work.frame, t)))).map (·.1)

/-! ### Dispatch (R66, R102) -/

/-- The frame is released and its place is free (R66). -/
def releaseFront (s : State) : State := { s with store := { s.store with queue := s.store.queue.tail } }

/-- The round engine takes the front frame of a kind (R102): the key station goes to the roster, the frame is dealt
with, and it is released, at once or, behind a pass it began, at the pass's completion. -/
def takeFront (k : Kind) (deal : RxEntry → State → State) (s : State) : Option State :=
  match s.store.queue with
  | f :: _ =>
    occasion (decide (nextWork s = some .frame) && decide (f.kind = k)) <|
      let dealt := deal f (hearFrame f s)
      if dealt.engine.pass.isSome then dealt else releaseFront dealt
  | [] => none

/-- The question number of a frame that names one, after R31. -/
def questionOf (f : RxEntry) : Nat := clampNumber (numAt f.body 0)

/-- The question type that a kind belongs to, where it belongs to one (R102, step 3). -/
def kindType : Kind → Option QuestionType
  | .buzz | .verdict => some .buzz
  | .answer | .reveal => some .poll
  | _ => none

/-- The last step of the question test (R102, step 4). -/
def stateFits (k : Kind) (st : RoundState) : Bool :=
  match k with
  | .halt => decide (st = .opened)
  | .resume => decide (st = .halted)
  | _ => true

/-- The question test (R102): the current question where the frame passes, the reason where it does not. -/
def questionTest (f : RxEntry) (s : State) : Except Reason Question :=
  match s.engine.state.isOpen, s.engine.question with
  | true, some q =>
    if questionOf f ≠ q.number then .error .question
    else if (kindType f.kind).any fun t => decide (t ≠ q.type) then .error .state
    else if stateFits f.kind s.engine.state then .ok q
    else .error .state
  | _, _ =>
    if s.engine.lastNo ≠ 0 ∧ questionOf f = s.engine.lastNo then .error .late else .error .state

/-- A frame that names a question: refused with its reason, or dealt with for the question (R102, R103). -/
def withQuestion (deal : RxEntry → Question → State → State) (f : RxEntry) (s : State) : State :=
  match questionTest f s with
  | .ok q => deal f q s
  | .error why => refuseFrame f why s

/-! ### Emptying and ending (R108) -/

/-- The buzz queue emptied; FLOOR if it held entries (R108, R116). -/
def emptyBuzz (s : State) : State :=
  raiseIf (!s.buzz.queue.isEmpty) .floor { s with buzz := { s.buzz with queue := [] } }

/-- The lockout set emptied (R106, R113, R117). -/
def emptyLockouts (s : State) : State := { s with buzz := { s.buzz with lockouts := [] } }

/-- The tally holds no counts (R136). -/
def tallyEmpty (s : State) : Bool := s.poll.tally.toList.all fun n => n == 0

/-- The poll table and the tally emptied; POLL if the tally held counts (R108, R136). -/
def emptyPoll (s : State) : State := raiseIf (!tallyEmpty s) .poll { s with poll := pollStart }

/-- Change the round engine's own record. -/
def setEngine (f : Engine → Engine) (s : State) : State := { s with engine := f s.engine }

/-- The ended question's number becomes the last question number, and its record absent (R108). -/
def forgetQuestion (s : State) : State :=
  setEngine (fun g => { g with lastNo := (g.question.map (·.number)).getD g.lastNo, question := none, pass := none }) s

/-- The question's own state goes, without a round state or a signal: the part of R108 that every ending has. -/
def dropQuestion (s : State) : State := clearTimer (forgetQuestion (emptyPoll (emptyBuzz s)))

/-- Entry into CLOSED (R108): ROUND is raised (R100) and the roster is told (R172). -/
def enterClosed (s : State) : State :=
  helloOccasion (raise .round (setEngine (fun g => { g with state := .closed }) s))

/-- A question ends by CLOSE, a VERDICT CORRECT or an empty REVEAL (R107, R108). -/
def endQuestion (s : State) : State := enterClosed (questionChanged none (dropQuestion s))

/-! ### OPEN (R99, R104 to R106) -/

/-- The question record of an OPEN, after the clamps of R31 (R99). -/
def questionRecord (f : RxEntry) : Question :=
  let mode := byteAt f.body 2
  { number := clampNumber (numAt f.body 1)
    type := modeType mode
    base := clampPoints (numAt f.body 3)
    penalty := clampPoints (numAt f.body 4)
    stake := clampStake (numAt f.body 5)
    windowMs := 1000 * clampWindow (numAt f.body 6)
    lead := clampLead (numAt f.body 7)
    scope := modeScope mode
    mode := modeAnswer mode
    choices := clampChoices (modeChoices mode)
    modeByte := mode }

/-- An OPEN of the number of the question now open (R104). -/
def duplicateOpen (f : RxEntry) (s : State) : Bool :=
  s.engine.state.isOpen && (s.engine.question.any fun q => decide (q.number = clampNumber (numAt f.body 1)))

/-- The show number settled by an OPEN; a mismatch sets adrift (R105). -/
def settleShow (showNo : Nat) (s : State) : State :=
  let adopted := setEngine (fun g => { g with showNo := showNo }) s
  if s.engine.showNo ≠ 0 ∧ s.engine.showNo ≠ showNo then setAdrift adopted else adopted

/-- The question opens (R106). -/
def openQuestion (f : RxEntry) (s : State) : State :=
  let q := questionRecord f
  let superseded := if s.engine.state.isOpen then dropQuestion s else s
  let shown := settleShow (clampNumber (numAt f.body 0)) superseded
  let emptied := emptyPoll (emptyLockouts (emptyBuzz shown))
  let opened := setEngine (fun g => { g with question := some q, state := .opened }) emptied
  let started := setTimer (Timer.begin f.stamp q.windowMs q.lead opened.clock.now) opened
  raise .round (abandonCatchUp (clearSeats (questionChanged (some q.number) started)))

/-- OPEN taken (R104, R106). -/
def dealOpen (f : RxEntry) (s : State) : State :=
  if duplicateOpen f s then refuseFrame f .again s else openQuestion f s

/-! ### CLOSE, HALT, RESUME (R109 to R111) -/

/-- CLOSE taken (R109). -/
def dealClose (f : RxEntry) (s : State) : State := withQuestion (fun _ _ s => endQuestion s) f s

/-- An accepted HALT (R110). -/
def haltQuestion (f : RxEntry) (_ : Question) (s : State) : State :=
  raise .round (setEngine (fun g => { g with state := .halted }) (setTimer (s.clock.timer.halt f.stamp) s))

/-- An accepted RESUME (R111). -/
def resumeQuestion (f : RxEntry) (_ : Question) (s : State) : State :=
  raise .round (setEngine (fun g => { g with state := .opened })
    (setTimer (s.clock.timer.resume f.stamp s.clock.now) s))

/-! ### SHOW (R113) -/

/-- SHOW taken (R113). Nothing of the score is made; ROUND is raised always (R100). -/
def dealShow (f : RxEntry) (s : State) : State :=
  let ended := if s.engine.state.isOpen then dropQuestion s else s
  let numbered := setEngine (fun g => { g with showNo := clampNumber (numAt f.body 0), lastNo := 0 }) ended
  let emptied := emptyPoll (emptyLockouts (emptyBuzz numbered))
  let scored := clearTimer (beginScores emptied)
  let closed := setEngine (fun g => { g with state := .closed }) scored
  let cleared := clearSeats (showPurge closed)
  helloOccasion (raise .round (setCatchUp catchUpNone (clearAdrift cleared)))

/-! ### Expiry and the catch-up deadline (R112, R178) -/

/-- EXPIRY_EVENT (R83, R112). -/
def expiryEffect (s : State) : Option State :=
  occasion (decide (nextWork s = some .expiry) && decide (s.engine.state = .opened))
    (raise .round (setEngine (fun g => { g with state := .expired }) (setTimer s.clock.timer.expire s)))

/-- CATCH_UP_DEADLINE (R178). -/
def deadlineEffect (s : State) : Option State :=
  occasion (decide (nextWork s = some .deadline)) (abandonCatchUp s)

/-! ### The commands -/

/-- EXPIRY_EVENT. -/
def execExpiryEvent (s : State) : Host.Outcome State Fault Refusal := event expiryEffect s

/-- SHOW_TAKEN. -/
def execShowTaken (s : State) : Host.Outcome State Fault Refusal := event (takeFront .newShow dealShow) s

/-- OPEN_TAKEN. -/
def execOpenTaken (s : State) : Host.Outcome State Fault Refusal := event (takeFront .openQ dealOpen) s

/-- CLOSE_TAKEN. -/
def execCloseTaken (s : State) : Host.Outcome State Fault Refusal := event (takeFront .closeQ dealClose) s

/-- HALT_TAKEN. -/
def execHaltTaken (s : State) : Host.Outcome State Fault Refusal :=
  event (takeFront .halt (withQuestion haltQuestion)) s

/-- RESUME_TAKEN. -/
def execResumeTaken (s : State) : Host.Outcome State Fault Refusal :=
  event (takeFront .resume (withQuestion resumeQuestion)) s

/-- ROLL_TAKEN. -/
def execRollTaken (s : State) : Host.Outcome State Fault Refusal := event (takeFront .roll dealRoll) s

/-- HELLO_TAKEN. -/
def execHelloTaken (s : State) : Host.Outcome State Fault Refusal := event (takeFront .hello dealHello) s

/-- TALLY_TAKEN. -/
def execTallyTaken (s : State) : Host.Outcome State Fault Refusal := event (takeFront .tally dealTally) s

/-- CATCH_UP_DEADLINE. -/
def execCatchUpDeadline (s : State) : Host.Outcome State Fault Refusal := event deadlineEffect s

end Sys2Proof.Machine
end

