-- ==== Sys2Proof/Machine/Buzz.lean ====
section
/-! DEFINITION. The buzz unit: buzz presses, the buzz queue and its eviction, the lockout set and the verdicts
(07_buzz_rounds.md). -/

namespace Sys2Proof.Machine

/-! ### Lockouts (R117) -/

/-- A seat belongs to a unit of the lockout set: by itself, by its station or by its team (R117). -/
def belongs (st : Station) (seat : Seat) (team : Option Team) : LockUnit → Bool
  | .seat st' seat' => decide (st = st') && decide (seat = seat')
  | .station st' => decide (st = st')
  | .team t => decide (team = some t)

/-- The seat, its station or its team is in the lockout set (R117). -/
def lockedOut (s : State) (st : Station) (seat : Seat) (team : Option Team) : Bool :=
  s.buzz.lockouts.any (belongs st seat team)

/-- The unit that a scope names for a queue entry (R126). -/
def unitOf (scope : Scope) (b : BuzzEntry) : LockUnit :=
  match scope with
  | .seat => .seat b.station b.seat
  | .desk => .station b.station
  | .team => .team b.team

/-- A unit joins the lockout set, in which none stands twice (R117). -/
def addLockout (u : LockUnit) (s : State) : State :=
  { s with buzz := { s.buzz with lockouts := if u ∈ s.buzz.lockouts then s.buzz.lockouts else s.buzz.lockouts ++ [u] } }

/-! ### Presses (R118) -/

/-- A buzz press that passed the gate (R118). -/
def judgeBuzzPress (seat : Seat) (e : Nat) (q : Question) (s : State) : State :=
  if s.panel.seats[seat].buzzed ∨ lockedOut s s.straps.station seat (teamOf (some s.straps.role)) then flashSeat seat s
  else
    place (newEntry s .buzz e seat q.number {}) (updateSeat seat (fun p => { p with buzzed := true }) s)

/-! ### BUZZ taken (R120 to R123) -/

/-- Into strictly ascending key order (R116). -/
def insertBuzz (b : BuzzEntry) : List BuzzEntry → List BuzzEntry
  | [] => [b]
  | h :: t => if b.key < h.key then b :: h :: t else h :: insertBuzz b t

/-- Replace the buzz queue; every change of its content raises FLOOR (R116). -/
def changeBuzz (q : List BuzzEntry) (s : State) : State :=
  raise .floor { s with buzz := { s.buzz with queue := q } }

/-- The entry a BUZZ makes (R116, R121). -/
def buzzEntry (f : RxEntry) : BuzzEntry :=
  { station := keyStation f.key, seat := keySeat f.key, team := clampTeam (numAt f.body 1), e := keyOrder f.key
    key := f.key }

/-- The seat already has an entry in the buzz queue (R120). -/
def queuedSeat (s : State) (st : Station) (seat : Seat) : Bool :=
  s.buzz.queue.any fun b => decide (b.station = st) && decide (b.seat = seat)

/-- The tests of R120 on a BUZZ. -/
def buzzRefusal (b : BuzzEntry) (q : Question) (s : State) : Option Reason :=
  if q.windowMs ≤ b.e then some .late
  else if queuedSeat s b.station b.seat then some .again
  else if lockedOut s b.station b.seat (some b.team) then some .locked
  else none

/-- The place a BUZZ finds (R121, R122): inserted by its key, with the last entry evicted from a full queue that the
new key comes before; none in a full queue otherwise. -/
def buzzPlace (b : BuzzEntry) (s : State) : Option (List BuzzEntry) :=
  if s.buzz.queue.length < Config.buzzPlaces then some (insertBuzz b s.buzz.queue)
  else match s.buzz.queue.getLast? with
    | some last => if b.key < last.key then some (insertBuzz b s.buzz.queue.dropLast) else none
    | none => none

/-- BUZZ taken, for its question (R120 to R123). -/
def dealBuzz (f : RxEntry) (q : Question) (s : State) : State :=
  let b := buzzEntry f
  match buzzRefusal b q s with
  | some why => refuseFrame f why s
  | none =>
    match buzzPlace b s with
    | some queue => giveSeat b.station b.seat (changeBuzz queue s)
    | none => refuseFrame f .full s

/-! ### VERDICT taken (R124 to R128) -/

/-- The floor: the head of the buzz queue (R116). -/
def floorOf (s : State) : Option BuzzEntry := s.buzz.queue.head?

/-- CORRECT (R125): the award, the correct mark at the seat's own station, the end of the question. -/
def verdictCorrect (q : Question) (b : BuzzEntry) (s : State) : State :=
  let awarded := judgeCorrect q b s
  let marked :=
    if b.station = s.straps.station then updateSeat b.seat (fun p => { p with correct := true }) awarded else awarded
  endQuestion marked

/-- WRONG (R126, R127): the penalty, the lockout, the queue without the unit's entries, the purge of own BUZZ
entries (R54). -/
def verdictWrong (q : Question) (b : BuzzEntry) (s : State) : State :=
  let u := unitOf q.scope b
  let penalised := addLockout u (judgeWrong q b s)
  wrongPurge u
    (changeBuzz (penalised.buzz.queue.filter fun x => !belongs x.station x.seat (some x.team) u) penalised)

/-- VOID (R128): the floor entry leaves with no score, and its seat may buzz again at its own station. -/
def verdictVoid (b : BuzzEntry) (s : State) : State :=
  let removed := changeBuzz s.buzz.queue.tail s
  if b.station = s.straps.station then updateSeat b.seat (fun p => { p with buzzed := false }) removed else removed

/-- VERDICT taken, for its question (R124). -/
def dealVerdict (f : RxEntry) (q : Question) (s : State) : State :=
  match floorOf s with
  | some b =>
    if b.station = upperStation (byteAt f.body 1) ∧ b.seat = lowerSeat (byteAt f.body 1) then
      match outcomeOf (byteAt f.body 2) with
      | .correct => verdictCorrect q b s
      | .wrong => verdictWrong q b s
      | .void => verdictVoid b s
    else refuseFrame f .notFloor s
  | none => refuseFrame f .notFloor s

/-- BUZZ_TAKEN. -/
def execBuzzTaken (s : State) : Host.Outcome State Fault Refusal := event (takeFront .buzz (withQuestion dealBuzz)) s

/-- VERDICT_TAKEN. -/
def execVerdictTaken (s : State) : Host.Outcome State Fault Refusal :=
  event (takeFront .verdict (withQuestion dealVerdict)) s

end Sys2Proof.Machine
end

