-- ==== Sys2Proof/Machine/Poll.lean ====
section
/-! DEFINITION. The poll unit: choice presses, ANSWER frames into the poll table, the choice tally, REVEAL and the
score pass it begins; and the press gate, which both kinds of press go through (08_poll_rounds.md, R115). -/

namespace Sys2Proof.Machine

/-! ### Choice presses (R137, R138) -/

/-- The tests of R137: the press is refused. -/
def choiceRefused (q : Question) (chosen : Option Chosen) (c : Choice) (e : Nat) : Bool :=
  decide (q.choices ≤ c.val) ||
    match chosen, q.mode with
    | none, _ => false
    | some _, .first => true
    | some old, .last => decide (old.choice = c) || decide (e ≤ old.e)

/-- A choice press that passed the gate (R137, R138). -/
def judgeChoicePress (seat : Seat) (c : Choice) (e : Nat) (q : Question) (s : State) : State :=
  if choiceRefused q s.panel.seats[seat].chosen c e then flashSeat seat s
  else recordAnswer seat c e q.number (updateSeat seat (fun p => { p with chosen := some { choice := c, e := e } }) s)

/-! ### The press gate (R115) -/

/-- The type of question that a key belongs to (R115, step 2). -/
def keyType : PadKey → QuestionType
  | .buzz => .buzz
  | .choice _ => .poll

/-- A press taken from its latch list and judged (R115): state, key and type, placement, then its unit. -/
def judgePress (seat : Seat) (p : Press) (s : State) : State :=
  match s.engine.state.isOpen, s.engine.question, s.clock.timer.place p.stamp with
  | true, some q, some (.within e) =>
    if keyType p.key ≠ q.type then flashSeat seat s
    else match p.key with
      | .buzz => judgeBuzzPress seat e q s
      | .choice c => judgeChoicePress seat c e q s
  | _, _, _ => flashSeat seat s

/-- PRESS: the round engine takes the oldest press when it is the earliest item (R88, R101, R115). -/
def pressEffect (s : State) : Option State :=
  match oldestPress s with
  | some (seat, p) => occasion (decide (nextWork s = some .press)) (judgePress seat p (dropPress seat s))
  | none => none

/-! ### ANSWER taken (R32, R136, R140 to R142) -/

/-- Into station and seat order (R135). -/
def insertPoll (r : PollRecord) : List PollRecord → List PollRecord
  | [] => [r]
  | h :: t =>
    if r.station < h.station ∨ (r.station = h.station ∧ r.seat < h.seat) then r :: h :: t
    else h :: insertPoll r t

/-- A count of the tally changes. -/
def countChoice (c : Choice) (up : Bool) (v : Vector Nat 4) : Vector Nat 4 :=
  putAt v c (if up then v[c] + 1 else v[c] - 1)

/-- A record is created: the tally rises for its choice, and the score unit is given the seat (R136, R140). -/
def createPoll (r : PollRecord) (s : State) : State :=
  giveSeat r.station r.seat
    { s with poll := { table := insertPoll r s.poll.table, tally := countChoice r.choice true s.poll.tally } }

/-- A record's choice and e are replaced in its place, and the tally follows (R136, R141). -/
def replacePoll (old new : PollRecord) (s : State) : State :=
  { s with poll :=
    { table := s.poll.table.map fun r => if r.station = new.station ∧ r.seat = new.seat then new else r
      tally := if old.choice = new.choice then s.poll.tally
        else countChoice new.choice true (countChoice old.choice false s.poll.tally) } }

/-- One entry of an accepted ANSWER (R32, R140, R141). -/
def judgeAnswer (st : Station) (q : Question) (s : State) (a : AnswerEntry) : State :=
  let new : PollRecord := { station := st, seat := a.seat, choice := a.choice, e := a.e }
  if q.choices ≤ a.choice.val ∨ q.windowMs ≤ a.e then s
  else match pollOf s st a.seat with
    | none => createPoll new s
    | some old => if q.mode = .last ∧ old.e < a.e then replacePoll old new s else s

/-- ANSWER taken, for its question (R140, R142): POLL once if any count changed. -/
def dealAnswer (f : RxEntry) (q : Question) (s : State) : State :=
  let judged := (answerEntries (f.body.drop 2)).foldl (judgeAnswer (keyStation f.key) q) s
  raiseIf (decide (judged.poll.tally ≠ s.poll.tally)) .poll judged

/-! ### REVEAL and the score pass (R114, R144, R145, R162) -/

/-- A non-empty correct set (R144): the reveal set, the timer's STOP, the signal, SCORING, and the pass. -/
def beginPass (f : RxEntry) (set : ChoiceSet) (s : State) : State :=
  let revealed := { s with panel := { s.panel with reveal := some set } }
  let stopped := questionChanged none (setTimer (s.clock.timer.stop f.stamp) revealed)
  raise .round (setEngine (fun g => { g with state := .scoring, pass := some set }) stopped)

/-- REVEAL taken, for its question (R144, R145). -/
def dealReveal (f : RxEntry) (q : Question) (s : State) : State :=
  let set := reduceSet (byteAt f.body 1) q.choices
  if set = 0 then endQuestion s else beginPass f set s

/-- SCORE_PASS_COMPLETE (R162): the new records and totals replace the old together, the list is recomputed once, the
question ends with no second signal (R108, R114), and the REVEAL is released. -/
def passCompleteEffect (s : State) : Option State :=
  match s.engine.pass, s.engine.question with
  | some set, some q =>
    occasion (decide (s.engine.state = .scoring))
      (releaseFront (enterClosed (dropQuestion (recompute (sweep q set s)))))
  | _, _ => none

/-! ### The commands -/

/-- PRESS. -/
def execPress (s : State) : Host.Outcome State Fault Refusal := event pressEffect s

/-- ANSWER_TAKEN. -/
def execAnswerTaken (s : State) : Host.Outcome State Fault Refusal :=
  event (takeFront .answer (withQuestion dealAnswer)) s

/-- REVEAL_TAKEN. -/
def execRevealTaken (s : State) : Host.Outcome State Fault Refusal :=
  event (takeFront .reveal (withQuestion dealReveal)) s

/-- SCORE_PASS_COMPLETE. -/
def execScorePassComplete (s : State) : Host.Outcome State Fault Refusal := event passCompleteEffect s

end Sys2Proof.Machine
end

