-- ==== Sys2Proof/Machine/DeskLink.lean ====
section
/-! DEFINITION. The desk link: the record receiver, the command records, their judging and their replies, the clear
pulse that CLEAR-LINE starts, and the ends of the records it sends (11_straps_desk_link_and_pins.md, R39, R40, R130,
R148). -/

namespace Sys2Proof.Machine

/-! ### The commands (R39) -/

/-- The seventeen commands of the desk link, with the bytes of their bodies (R39). -/
inductive Command where
  | status | standings | floor | seat (target : Byte) | votes | roster | notices (mask : Byte) | catchUp
  | startShow (showNo : Byte) | roll | openQ (question mode base penalty stake window lead : Byte)
  | verdict (target outcome : Byte) | closeQ | reveal (set : Byte) | halt | resume | clearLine
  deriving DecidableEq, Repr

/-- The kind byte of a command (R39). -/
def Command.code : Command → Byte
  | .status => 0x01 | .standings => 0x02 | .floor => 0x03 | .seat _ => 0x04 | .votes => 0x05 | .roster => 0x06
  | .notices _ => 0x07 | .catchUp => 0x08
  | .startShow _ => 0x10 | .roll => 0x11 | .openQ .. => 0x12 | .verdict .. => 0x13 | .closeQ => 0x14
  | .reveal _ => 0x15 | .halt => 0x16 | .resume => 0x17 | .clearLine => 0x18

/-- The body of a command (R39). -/
def Command.body : Command → List Byte
  | .seat b | .notices b | .startShow b | .reveal b => [b]
  | .verdict t o => [t, o]
  | .openQ q m b p k w l => [q, m, b, p, k, w, l]
  | _ => []

/-- A presenter command (R39). -/
def Command.presenterOnly : Command → Bool
  | .status | .standings | .floor | .seat _ | .votes | .roster | .notices _ | .catchUp => false
  | _ => true

/-- The command that a kind and a body are, if its kind and exact length are those of one (R39, R184). -/
def commandOf (kind : Byte) (body : List Byte) : Option Command :=
  match kind.toNat, body with
  | 0x01, [] => some .status
  | 0x02, [] => some .standings
  | 0x03, [] => some .floor
  | 0x04, [b] => some (.seat b)
  | 0x05, [] => some .votes
  | 0x06, [] => some .roster
  | 0x07, [b] => some (.notices b)
  | 0x08, [] => some .catchUp
  | 0x10, [b] => some (.startShow b)
  | 0x11, [] => some .roll
  | 0x12, [q, m, b, p, k, w, l] => some (.openQ q m b p k w l)
  | 0x13, [t, o] => some (.verdict t o)
  | 0x14, [] => some .closeQ
  | 0x15, [b] => some (.reveal b)
  | 0x16, [] => some .halt
  | 0x17, [] => some .resume
  | 0x18, [] => some .clearLine
  | _, _ => none

/-- A record is malformed by its kind and length bytes alone (R184). -/
def malformed (kind length : Byte) : Bool :=
  decide (Config.longestRecord < length.toNat) || (commandOf kind (List.replicate length.toNat 0)).isNone

/-! ### The data of the replies (R40) -/

/-- The code of a round state (R40). -/
def stateCode : RoundState → Nat
  | .standby => 0 | .closed => 1 | .opened => 2 | .halted => 3 | .expired => 4 | .scoring => 5

/-- The code of a health state (R40). -/
def healthCode : Health → Nat
  | .active => 0 | .warning => 1 | .quiet => 2 | .off => 3

/-- The code of a catch-up state (R40). -/
def catchUpCode : CatchUpState → Nat
  | .none => 0 | .waiting => 1 | .done => 2

/-- The code of a frame's refusal reason, 00h for none (R40). -/
def reasonCode : Option Reason → Byte
  | none => 0 | some .question => 1 | some .state => 2 | some .notFloor => 3 | some .locked => 4
  | some .again => 5 | some .full => 6 | some .late => 7 | some .showDiffers => 8

/-- The code of a fault's cause, 00h for none (R40). -/
def causeCode : Option Cause → Byte
  | none => 0 | some .framing => 1 | some .syn => 2 | some .length => 3 | some .kind => 4 | some .shape => 5
  | some .check => 6 | some .disturbed => 7 | some .stuck => 8 | some .twin => 9

/-- The code of a seat's last outcome (R40). -/
def outcomeCode : SeatOutcome → Nat
  | .none => 0 | .correct => 1 | .wrong => 2 | .noAnswer => 3

/-- The code of a kind, 00h for none (R40). -/
def kindCode? : Option Kind → Byte
  | none => 0
  | some k => kindCode k

/-- The current question number while the question record stands, 0 otherwise (R40). -/
def currentNumber (s : State) : Nat := (s.engine.question.map (·.number)).getD 0

/-- The conditions byte: adrift, twin fault, line fault (R40). -/
def conditionsByte (s : State) : Byte :=
  byteOf (bitOf s.store.adrift + 2 * bitOf s.store.twin + 4 * bitOf s.line.fault)

/-- The data of a STATUS reply (R40). -/
def statusData (s : State) : List Byte :=
  [byteOf (stateCode s.engine.state), byteOf s.engine.showNo, byteOf (currentNumber s), byteOf s.engine.lastNo,
    (s.engine.question.map (·.modeByte)).getD 0, byteOf ((s.clock.timer.countdown s.clock.now).getD 0),
    byteOf (healthCode s.store.health), byteOf s.store.count, conditionsByte s,
    byteOf (catchUpCode s.roster.catchUp.state), kindCode? s.engine.refusal.kind, reasonCode s.engine.refusal.reason]
  ++ bytes4 s.engine.refusal.key
  ++ [causeCode s.store.lastFault.cause, byteOf s.store.lastFault.position]
  ++ bytes4 s.store.lastFault.key
  ++ [byteOf s.straps.station.val, byteOf (roleCode s.straps.role), byteOf s.straps.seatCount,
    byteOf (bitOf s.straps.fast)]

/-- The data of a STANDINGS reply: the count, then team, rank and total in list order (R40). -/
def standingsData (s : State) : List Byte :=
  byteOf s.score.standings.length ::
    s.score.standings.flatMap fun x => [byteOf (x.team.val + 1), byteOf x.rank] ++ bytes4 (BitVec.ofInt 32 x.total)

/-- A 3-byte number, high byte first (R40). -/
def bytes3 (n : Nat) : List Byte := [byteOf (n / 65536), byteOf (n / 256), byteOf n]

/-- The data of a FLOOR reply; with no question record it gives question 0 and count 0 (R40, R185). -/
def floorData (s : State) : List Byte :=
  match s.engine.question with
  | none => [0, 0]
  | some q =>
    [byteOf q.number, byteOf s.buzz.queue.length]
      ++ s.buzz.queue.flatMap fun b => seatByte b.station b.seat :: bytes3 b.e

/-- The place of a seat in the buzz queue, 1 to 16, or 0 (R40). -/
def floorPlace (s : State) (st : Station) (seat : Seat) : Nat :=
  match s.buzz.queue.findIdx? fun b => decide (b.station = st) && decide (b.seat = seat) with
  | some i => i + 1
  | none => 0

/-- The data of a SEAT reply, for any byte value (R40, R185). DEDUCED (log entry 19): the team of the lockout flag is
the one that the roster's code gives the station. -/
def seatData (target : Byte) (s : State) : List Byte :=
  let st := upperStation target
  let seat := lowerSeat target
  let r := (recordOf s st seat).getD (newRecord st seat)
  [target, byteOf (bitOf (recordOf s st seat).isSome)]
    ++ bytes2 (BitVec.ofInt 16 r.total) ++ [byteOf r.streak, byteOf (outcomeCode r.outcome)]
    ++ bytes2 (BitVec.ofInt 16 r.lastAward)
    ++ [((pollOf s st seat).map fun p => byteOf p.choice.val).getD 0xFF, byteOf (floorPlace s st seat),
      byteOf (bitOf (lockedOut s st seat (attachedTeam s st)))]

/-- The poll question whose record stands (R40). -/
def pollQuestion (s : State) : Option Question := s.engine.question.filter fun q => decide (q.type = .poll)

/-- The data of a VOTES reply (R40). -/
def votesData (s : State) : List Byte :=
  [byteOf (((pollQuestion s).map (·.number)).getD 0), byteOf (((pollQuestion s).map (·.choices)).getD 0)]
    ++ (s.poll.tally.toList.flatMap fun n => bytes2 (BitVec.ofNat 16 n))
    ++ bytes2 (BitVec.ofNat 16 s.poll.table.length)

/-- A station's byte in a ROSTER reply: bit 7 present, bit 3 code known, bits 2 to 0 the code (R40). -/
def rosterByte (e : RosterEntry) : Byte :=
  byteOf (128 * bitOf e.present + 8 * bitOf e.code.isSome + (e.code.map roleCode).getD 0)

/-- The data of a ROSTER reply (R40). -/
def rosterData (s : State) : List Byte := s.roster.entries.toList.map rosterByte

/-- A set of notice kinds as a byte (R39, R40). -/
def maskByte (m : BitVec 7) : Byte := m.setWidth 8

/-! ### Rulings (R184) -/

/-- What a judged command leaves: the state, the status and the data of the reply. -/
structure Ruling where
  after  : State
  status : Status
  data   : List Byte

/-- A refusal changes nothing and carries no data (R40). -/
def refuse (why : Refused) (s : State) : Ruling := { after := s, status := .refused why, data := [] }

/-- The ordered tests of a command, each with what fails it: the first that fails refuses it (R130, R148, R186). -/
def tested (tests : List (Bool × Refused)) (pass : Ruling) (s : State) : Ruling :=
  match tests.find? (·.1) with
  | some t => refuse t.2 s
  | none => pass

/-- A read command: OK and its data (R185). -/
def reading (data : State → List Byte) (s : State) : Ruling := { after := s, status := .ok, data := data s }

/-- ADJUSTED where a value was clamped or reduced, OK otherwise (R184). -/
def statusOf (adjusted : Bool) : Status := if adjusted then .adjusted else .ok

/-- An accepted presenter command places its entry (R42, R186). -/
def placing (adjusted : Bool) (e : TxEntry) (s : State) : Ruling :=
  { after := place e s, status := statusOf adjusted, data := [] }

/-- The entry of a presenter command for the current question (R41, R186). -/
def questionEntry (kind : Kind) (values : CommandValues) (s : State) : TxEntry :=
  newEntry s kind 0 0 (currentNumber s) values

/-- A presenter command on the current question, without a clamp (R186). -/
def ruleOnQuestion (kind : Kind) (fits : Bool) (s : State) : Ruling :=
  tested [(!fits, .state), (standsFor kind (currentNumber s) s, .duplicate), (queueFull s, .busy)]
    (placing false (questionEntry kind {} s) s) s

/-- NOTICES (R185): the mask is set, and each kind whose bit goes from 1 to 0 loses its pending mark. -/
def setMask (mask : BitVec 7) (s : State) : State :=
  { s with link := { s.link with mask := mask, raised := s.link.raised &&& ~~~(s.link.mask &&& ~~~mask) } }

/-- The NOTICES command (R185). -/
def ruleNotices (mask : Byte) (s : State) : Ruling :=
  let t := setMask (mask.extractLsb' 0 7) s
  { after := t, status := .ok, data := [maskByte t.link.mask, maskByte t.link.raised] }

/-- The CATCH-UP command (R172, R185). -/
def ruleCatchUp (s : State) : Ruling :=
  tested [(!s.store.adrift || decide (s.roster.catchUp.state ≠ .none), .state), (stands .hello s, .duplicate),
      (queueFull s, .busy)]
    { after := requestHello s, status := .ok, data := [] } s

/-- The START-SHOW command (R186). -/
def ruleStartShow (showNo : Byte) (s : State) : Ruling :=
  let used := byteOf (clampNumber showNo.toNat)
  tested [(stands .newShow s, .duplicate), (queueFull s, .busy)]
    (placing (decide (used ≠ showNo)) (newEntry s .newShow 0 0 0 { showNo := used }) s) s

/-- The ROLL command (R186). -/
def ruleRoll (s : State) : Ruling :=
  tested [(stands .roll s, .duplicate), (queueFull s, .busy)] (placing false (newEntry s .roll 0 0 0 {}) s) s

/-- The clamped values of an OPEN command (R31, R186). -/
def openValues (mode base penalty stake window lead : Byte) : CommandValues :=
  { mode := rewriteMode mode
    base := byteOf (clampPoints base.toNat)
    penalty := byteOf (clampPoints penalty.toNat)
    stake := byteOf (clampStake stake.toNat)
    window := byteOf (clampWindow window.toNat)
    lead := byteOf (clampLead lead.toNat) }

/-- A question is open with this number (R186). DEDUCED (log entry 30): the number as clamped. -/
def openWith (number : Nat) (s : State) : Bool :=
  s.engine.state.isOpen && decide (currentNumber s = number)

/-- The OPEN command (R186). -/
def ruleOpen (question mode base penalty stake window lead : Byte) (s : State) : Ruling :=
  let number := clampNumber question.toNat
  let used := openValues mode base penalty stake window lead
  let given : CommandValues :=
    { mode := mode, base := base, penalty := penalty, stake := stake, window := window, lead := lead }
  tested [(decide (s.engine.state = .scoring), .state), (openWith number s || standsFor .openQ number s, .duplicate),
      (queueFull s, .busy)]
    (placing (decide (used ≠ given) || decide (question = 0)) (newEntry s .openQ 0 0 number used) s) s

/-- The current question is of a type (R130, R148). -/
def currentType (t : QuestionType) (s : State) : Bool := s.engine.question.any fun q => decide (q.type = t)

/-- The floor is the seat that a command names (R130). -/
def namesFloor (target : Byte) (s : State) : Bool :=
  (floorOf s).any fun b => decide (b.station = upperStation target) && decide (b.seat = lowerSeat target)

/-- An outcome byte as sent: any other than 01h, 02h or 03h is taken as VOID (R130). -/
def usedOutcome (o : Byte) : Byte := if o = 1 ∨ o = 2 ∨ o = 3 then o else 3

/-- The VERDICT command (R130). -/
def ruleVerdict (target outcome : Byte) (s : State) : Ruling :=
  tested [(!(s.engine.state.isOpen && currentType .buzz s), .state), (!namesFloor target s, .stale),
      (standsFor .verdict (currentNumber s) s, .duplicate), (queueFull s, .busy)]
    (placing (decide (usedOutcome outcome ≠ outcome))
      (questionEntry .verdict { target := target, outcome := usedOutcome outcome } s) s) s

/-- A correct-set byte reduced by the current n (R33, R148). -/
def reducedByte (set : Byte) (s : State) : Byte :=
  (reduceSet set ((s.engine.question.map (·.choices)).getD 0)).setWidth 8

/-- The REVEAL command (R148). -/
def ruleReveal (set : Byte) (s : State) : Ruling :=
  tested [(!(decide (s.engine.state = .expired) && currentType .poll s), .state),
      (standsFor .reveal (currentNumber s) s, .duplicate), (queueFull s, .busy)]
    (placing (decide (reducedByte set s ≠ set)) (questionEntry .reveal { set := reducedByte set s } s) s) s

/-- A line seen dominant by the pulse: a run already recognised, as a pulse or as stuck, goes on (R21 to R23). -/
def pulseLevel : Level → Level
  | .stuck => .stuck
  | .pulse => .pulse
  | _ => .unsettled

/-- The marking stops (R21). -/
def stopMarking : Receiver → Receiver
  | .tail t => .tail { t with mine := none }
  | r => r

/-- The clear pulse begins, or is restarted: the transmitter passes to CLEAR and any own frame or mark stops (R21). -/
def startPulse (s : State) : State :=
  { s with line := { s.line with
      tx := .clear, level := pulseLevel s.line.level, idleSince := none, rx := stopMarking s.line.rx } }

/-- The CLEAR-LINE command (R21, R186). -/
def ruleClearLine (s : State) : Ruling :=
  tested [(!maySend s, .state)] { after := startPulse s, status := .ok, data := [] } s

/-- What a well-formed command does at a station that it is for (R185, R186, R130, R148). -/
def obey (c : Command) (s : State) : Ruling :=
  match c with
  | .status => reading statusData s
  | .standings => reading standingsData s
  | .floor => reading floorData s
  | .seat b => reading (seatData b) s
  | .votes => reading votesData s
  | .roster => reading rosterData s
  | .notices m => ruleNotices m s
  | .catchUp => ruleCatchUp s
  | .startShow n => ruleStartShow n s
  | .roll => ruleRoll s
  | .openQ q m b p k w l => ruleOpen q m b p k w l s
  | .verdict t o => ruleVerdict t o s
  | .closeQ => ruleOnQuestion .closeQ s.engine.state.isOpen s
  | .reveal set => ruleReveal set s
  | .halt => ruleOnQuestion .halt (decide (s.engine.state = .opened)) s
  | .resume => ruleOnQuestion .resume (decide (s.engine.state = .halted)) s
  | .clearLine => ruleClearLine s

/-- The tests of form and role, then the command (R184). -/
def rule (c : Option Command) (s : State) : Ruling :=
  match c with
  | none => refuse .malformed s
  | some c => if c.presenterOnly && decide (s.straps.role ≠ .presenter) then refuse .notPresenter s else obey c s

/-! ### Records (R182, R183) -/

/-- A byte as the UART sends it: a start bit, the eight data bits least significant first, no parity, and a stop bit
(R182). -/
def uartChar (b : Byte) : UartChar := 1#1 ++ b ++ 0#1

/-- A character as the UART reads it: its eight data bits, and a framing error where the stop bit is missing (R182). -/
def uartRead (c : UartChar) : LinkByte := { value := c.extractLsb' 1 8, framing := !c.getLsbD 9 }

/-- The record receiver's state. -/
def setRecordRx (rx : RecordRx) (s : State) : State := { s with link := { s.link with rx := rx } }

/-- Both input slots are held (R183). -/
def slotsHeld (s : State) : Bool := decide (Config.inputSlots ≤ s.link.replies.length)

/-- A lost record sets the overrun condition (R183). -/
def loseRecord (s : State) : State := { s with link := { s.link with overrun := true } }

/-- The reply is formed: its kind is the record's plus 80h modulo 256, and a pass in flight is marked (R183, R184). -/
def formReply (kind : Byte) (r : Ruling) : State :=
  { r.after with link := { r.after.link with replies := r.after.link.replies ++
      [{ kind := kind + 0x80#8, status := r.status, inPass := r.after.engine.pass.isSome, data := r.data }] } }

/-- A record completes (R183, R184): it is lost with both slots held (log entry 26), and otherwise judged at once. -/
def recordDone (kind : Byte) (c : Option Command) (s : State) : State :=
  if slotsHeld s then loseRecord s else formReply kind (rule c s)

/-- One byte at the record receiver: its next state, and the record that completes, with the command it is if it is
one (R182, R184). -/
def rxStep (rx : RecordRx) (b : LinkByte) : RecordRx × Option (Byte × Option Command) :=
  match rx with
  | .hunt => (if b.value = leadByte ∧ !b.framing then .kind else .hunt, none)
  | .kind => (.length b.value, none)
  | .length kind =>
    if b.value = 0 then (.hunt, some (kind, commandOf kind []))
    else if Config.longestRecord < b.value.toNat then (.hunt, some (kind, none))
    else (.body kind b.value [], none)
  | .body kind length got =>
    let body := got ++ [b.value]
    if length.toNat ≤ body.length then (.hunt, some (kind, commandOf kind body)) else (.body kind length body, none)

/-- A byte arrives: a record that it completes is judged (R182, R183). -/
def recvByte (s : State) (b : LinkByte) : State :=
  let r := rxStep s.link.rx b
  let moved := setRecordRx r.1 s
  match r.2 with
  | some (kind, c) => settle (recordDone kind c moved)
  | none => moved

/-- RECORD_ABANDON (R182; log entry 25): the characters arrive, and the gap discards what they left unfinished. -/
def abandonEffect (chars : List UartChar) (s : State) : Option State :=
  some (setRecordRx .hunt ((chars.map uartRead).foldl recvByte s))

/-- RECORD_LOST (R183). -/
def lostRecordEffect (s : State) : Option State := occasion (slotsHeld s) (loseRecord s)

/-- MALFORMED_RECORD (R184). -/
def malformedEffect (kind length : Byte) (s : State) : Option State :=
  occasion (malformed kind length) (recordDone kind none s)

/-- The record of a command completes (R183 to R186). -/
def commandEffect (c : Command) (s : State) : Option State := some (recordDone c.code (some c) s)

/-- REPLY_SENT (R183): the slot is free. -/
def replySentEffect (s : State) : Option State :=
  match s.link.tx with
  | .reply _ => some { s with link := { s.link with tx := .idle, replies := s.link.replies.tail } }
  | _ => none

/-- NOTICE_SENT (R188). -/
def noticeSentEffect (s : State) : Option State :=
  match s.link.tx with
  | .notice _ => some { s with link := { s.link with tx := .idle } }
  | _ => none

/-! ### The commands of the table -/

/-- RECORD_ABANDON. -/
def execRecordAbandon (chars : List UartChar) (s : State) : Host.Outcome State Fault Refusal :=
  event (abandonEffect chars) s

/-- RECORD_LOST. -/
def execRecordLost (s : State) : Host.Outcome State Fault Refusal := event lostRecordEffect s

/-- MALFORMED_RECORD. -/
def execMalformedRecord (kind length : Byte) (s : State) : Host.Outcome State Fault Refusal :=
  event (malformedEffect kind length) s

/-- STATUS_COMMAND. -/
def execStatusCommand (s : State) : Host.Outcome State Fault Refusal := event (commandEffect .status) s

/-- STANDINGS_COMMAND. -/
def execStandingsCommand (s : State) : Host.Outcome State Fault Refusal := event (commandEffect .standings) s

/-- FLOOR_COMMAND. -/
def execFloorCommand (s : State) : Host.Outcome State Fault Refusal := event (commandEffect .floor) s

/-- SEAT_COMMAND. -/
def execSeatCommand (target : Byte) (s : State) : Host.Outcome State Fault Refusal :=
  event (commandEffect (.seat target)) s

/-- VOTES_COMMAND. -/
def execVotesCommand (s : State) : Host.Outcome State Fault Refusal := event (commandEffect .votes) s

/-- ROSTER_COMMAND. -/
def execRosterCommand (s : State) : Host.Outcome State Fault Refusal := event (commandEffect .roster) s

/-- NOTICES_COMMAND. -/
def execNoticesCommand (mask : Byte) (s : State) : Host.Outcome State Fault Refusal :=
  event (commandEffect (.notices mask)) s

/-- CATCH_UP_COMMAND. -/
def execCatchUpCommand (s : State) : Host.Outcome State Fault Refusal := event (commandEffect .catchUp) s

/-- START_SHOW_COMMAND. -/
def execStartShowCommand (showNo : Byte) (s : State) : Host.Outcome State Fault Refusal :=
  event (commandEffect (.startShow showNo)) s

/-- ROLL_COMMAND. -/
def execRollCommand (s : State) : Host.Outcome State Fault Refusal := event (commandEffect .roll) s

/-- OPEN_COMMAND. -/
def execOpenCommand (question mode base penalty stake window lead : Byte) (s : State) :
    Host.Outcome State Fault Refusal :=
  event (commandEffect (.openQ question mode base penalty stake window lead)) s

/-- VERDICT_COMMAND. -/
def execVerdictCommand (target outcome : Byte) (s : State) : Host.Outcome State Fault Refusal :=
  event (commandEffect (.verdict target outcome)) s

/-- CLOSE_COMMAND. -/
def execCloseCommand (s : State) : Host.Outcome State Fault Refusal := event (commandEffect .closeQ) s

/-- REVEAL_COMMAND. -/
def execRevealCommand (set : Byte) (s : State) : Host.Outcome State Fault Refusal :=
  event (commandEffect (.reveal set)) s

/-- HALT_COMMAND. -/
def execHaltCommand (s : State) : Host.Outcome State Fault Refusal := event (commandEffect .halt) s

/-- RESUME_COMMAND. -/
def execResumeCommand (s : State) : Host.Outcome State Fault Refusal := event (commandEffect .resume) s

/-- CLEAR_LINE_COMMAND. -/
def execClearLineCommand (s : State) : Host.Outcome State Fault Refusal := event (commandEffect .clearLine) s

/-- REPLY_SENT. -/
def execReplySent (s : State) : Host.Outcome State Fault Refusal := event replySentEffect s

/-- NOTICE_SENT. -/
def execNoticeSent (s : State) : Host.Outcome State Fault Refusal := event noticeSentEffect s

end Sys2Proof.Machine
end

