-- ==== Sys2Proof/Machine/Power.lean ====
section
/-! DEFINITION. Power-up, RESET and the straps they latch (R180, R181). -/

namespace Sys2Proof.Machine

/-- An active RESET, or a supply not good, begins to hold the part (R181): nothing is driven or sent, and a record
partly received or partly sent is lost. DEDUCED (log entry 20): the rest keeps its values until the blocks start. -/
def hold (power : Power) (s : State) : State :=
  { silence s with
    power := power
    link := { s.link with rx := .hunt, tx := .idle } }

/-- The latch of the straps and the start of every block (R180, R181). -/
def latchAndStart (power : Power) (pins : StrapPins) (s : State) : State :=
  { startWith (latchStraps pins) s.pending with power := power }

/-- POWER_UP (R181): the supply is not yet good and holds the part, or it has become good and the part starts. A RESET
that is active goes on holding it (log entry 20). -/
def execPowerUp (pins : PowerPins) (s : State) : Host.Outcome State Fault Refusal :=
  let power := { s.power with supplyGood := pins.supplyGood }
  .next (if pins.supplyGood then latchAndStart power pins.straps s else hold power s)

/-- RESET_ASSERT (R181). -/
def execResetAssert (s : State) : Host.Outcome State Fault Refusal :=
  .next (hold { s.power with resetActive := true } s)

/-- RESET_RELEASE (R181), of a RESET that is active. A supply that is not good goes on holding the part. -/
def execResetRelease (pins : StrapPins) (s : State) : Host.Outcome State Fault Refusal :=
  .next (if s.power.resetActive then latchAndStart { s.power with resetActive := false } pins s else s)

end Sys2Proof.Machine
end

