-- ==== Sys2Proof/Machine/Dispatch.lean ====
section
/-! DEFINITION. The dispatch: one arm for each command, a direct call of its meaning. -/

namespace Sys2Proof.Machine

/-- The effect of a command on everything but the queue of commands. -/
def exec (i : Instr) (s : State) : Host.Outcome State Fault Refusal :=
  match i with
  | .powerUp pins => Sys2Proof.Machine.execPowerUp pins s
  | .resetAssert => Sys2Proof.Machine.execResetAssert s
  | .resetRelease pins => Sys2Proof.Machine.execResetRelease pins s
  | .idle => Sys2Proof.Machine.execIdle s
  | .startEdgeSeen fresh => Sys2Proof.Machine.execStartEdgeSeen fresh s
  | .quietStart => Sys2Proof.Machine.execQuietStart s
  | .longIdle => Sys2Proof.Machine.execLongIdle s
  | .characterComplete char framing => Sys2Proof.Machine.execCharacterComplete char framing s
  | .missingStartBit => Sys2Proof.Machine.execMissingStartBit s
  | .lost => Sys2Proof.Machine.execLost s
  | .disturbed => Sys2Proof.Machine.execDisturbed s
  | .verdict faultHalf busyHalf stillDominant => Sys2Proof.Machine.execVerdict faultHalf busyHalf stillDominant s
  | .heldVerdictActed => Sys2Proof.Machine.execHeldVerdictActed s
  | .tailSlot char framing => Sys2Proof.Machine.execTailSlot char framing s
  | .tailEndEmptySlot => Sys2Proof.Machine.execTailEndEmptySlot s
  | .clearPulse => Sys2Proof.Machine.execClearPulse s
  | .clearPulseEnd => Sys2Proof.Machine.execClearPulseEnd s
  | .stuckLine => Sys2Proof.Machine.execStuckLine s
  | .lineFaultClear => Sys2Proof.Machine.execLineFaultClear s
  | .acceptedPress seat key => Sys2Proof.Machine.execAcceptedPress seat key s
  | .acceptedRelease seat key => Sys2Proof.Machine.execAcceptedRelease seat key s
  | .refusalFlashEnd seat => Sys2Proof.Machine.execRefusalFlashEnd seat s
  | .warn => Sys2Proof.Machine.execWarn s
  | .expiryDue => Sys2Proof.Machine.execExpiryDue s
  | .expiryEvent => Sys2Proof.Machine.execExpiryEvent s
  | .press => Sys2Proof.Machine.execPress s
  | .showTaken => Sys2Proof.Machine.execShowTaken s
  | .openTaken => Sys2Proof.Machine.execOpenTaken s
  | .closeTaken => Sys2Proof.Machine.execCloseTaken s
  | .haltTaken => Sys2Proof.Machine.execHaltTaken s
  | .resumeTaken => Sys2Proof.Machine.execResumeTaken s
  | .verdictTaken => Sys2Proof.Machine.execVerdictTaken s
  | .buzzTaken => Sys2Proof.Machine.execBuzzTaken s
  | .answerTaken => Sys2Proof.Machine.execAnswerTaken s
  | .revealTaken => Sys2Proof.Machine.execRevealTaken s
  | .rollTaken => Sys2Proof.Machine.execRollTaken s
  | .helloTaken => Sys2Proof.Machine.execHelloTaken s
  | .tallyTaken => Sys2Proof.Machine.execTallyTaken s
  | .scorePassComplete => Sys2Proof.Machine.execScorePassComplete s
  | .catchUpDeadline => Sys2Proof.Machine.execCatchUpDeadline s
  | .idleWatch => Sys2Proof.Machine.execIdleWatch s
  | .recordAbandon chars => Sys2Proof.Machine.execRecordAbandon chars s
  | .recordLost => Sys2Proof.Machine.execRecordLost s
  | .malformedRecord kind length => Sys2Proof.Machine.execMalformedRecord kind length s
  | .statusCommand => Sys2Proof.Machine.execStatusCommand s
  | .standingsCommand => Sys2Proof.Machine.execStandingsCommand s
  | .floorCommand => Sys2Proof.Machine.execFloorCommand s
  | .seatCommand target => Sys2Proof.Machine.execSeatCommand target s
  | .votesCommand => Sys2Proof.Machine.execVotesCommand s
  | .rosterCommand => Sys2Proof.Machine.execRosterCommand s
  | .noticesCommand mask => Sys2Proof.Machine.execNoticesCommand mask s
  | .catchUpCommand => Sys2Proof.Machine.execCatchUpCommand s
  | .startShowCommand showNo => Sys2Proof.Machine.execStartShowCommand showNo s
  | .rollCommand => Sys2Proof.Machine.execRollCommand s
  | .openCommand question mode base penalty stake window lead => Sys2Proof.Machine.execOpenCommand question mode base penalty stake window lead s
  | .verdictCommand target outcome => Sys2Proof.Machine.execVerdictCommand target outcome s
  | .closeCommand => Sys2Proof.Machine.execCloseCommand s
  | .revealCommand set => Sys2Proof.Machine.execRevealCommand set s
  | .haltCommand => Sys2Proof.Machine.execHaltCommand s
  | .resumeCommand => Sys2Proof.Machine.execResumeCommand s
  | .clearLineCommand => Sys2Proof.Machine.execClearLineCommand s
  | .replySent => Sys2Proof.Machine.execReplySent s
  | .noticeSent => Sys2Proof.Machine.execNoticeSent s
  | .keyScan readings => Sys2Proof.Machine.execKeyScan readings s

end Sys2Proof.Machine
end

