-- ==== Sys2Proof/Machine/Step.lean ====
section
/-! DEFINITION. The step: the waiting command at the front is taken, and with none waiting a millisecond passes. -/

namespace Sys2Proof.Machine

/-- What a step does with no command waiting: the oscillator's millisecond passes (R78), and a part that is held stays
as it is. DESIGN CHOICE (log entry 1): the table has no row for the clock's tick. -/
def idleStep (s : State) : State := if s.held then s else tickClock s

/-- One step of the station. -/
def step (s : State) : Host.Outcome State Fault Refusal :=
  match s.pending with
  | c :: rest => exec c { s with pending := rest }
  | [] => .next (idleStep s)

/-- The state with the command that a word spells at the front of its queue; unchanged where it spells none. -/
def State.withFetchWord (s : State) (nbits w : Nat) : State :=
  match decodeTableWord nbits w with
  | some c => { s with pending := c :: s.pending }
  | none => s

end Sys2Proof.Machine
end

