-- ==== Sys2Proof/Machine/Outputs.lean ====
section
/-! DEFINITION. The output pins as views of the state: the line, the desk link, the lamps and LEDs, the desk display
and the seat selects (R94 to R97, R181, R188, 11.7). A part held by RESET shows nothing (R181). -/

namespace Sys2Proof.Machine

/-! ### The theatre line (R3, R15, R21) -/

/-- The character time in microseconds (R3). -/
def charTime (s : State) : Nat := if s.straps.fast then 50 else 200

/-- The clear pulse holds the line dominant (R21). -/
def drivesPulse (s : State) : Bool := !s.held && decide (s.line.tx = .clear)

/-- The station drives the fault half of the window (R15). -/
def drivesFaultHalf (s : State) : Bool :=
  !s.held && match s.line.rx with
    | .window w => w.drivesFault
    | _ => false

/-- The station drives the busy half of the window (R15). -/
def drivesBusyHalf (s : State) : Bool :=
  !s.held && match s.line.rx with
    | .window w => w.drivesBusy
    | _ => false

/-- The character that the station sends next: of its own frame, or its mark in the slot that opens (R11, R12, R19). -/
def sendingChar (s : State) : Option Byte :=
  if s.held then none
  else match s.line.tx, s.line.rx with
    | .arbitrate, _ => s.line.frame[s.line.sent]?
    | .send, _ => s.line.frame[s.line.sent]?
    | .mark, .tail t => t.mine
    | _, _ => none

/-- The ten bit levels of that character on the line (R2); none is dominant while nothing is sent (R1). -/
def sendingLine (s : State) : Option LineChar := (sendingChar s).map lineChar

/-! ### The desk link (R183, R188) -/

/-- The record being sent on TXD. -/
def sendingRecord (s : State) : List Byte :=
  if s.held then []
  else match s.link.tx with
    | .reply bytes => bytes
    | .notice bytes => bytes
    | .idle => []

/-- The characters of that record on TXD (R182). -/
def sendingTxd (s : State) : List UartChar := (sendingRecord s).map uartChar

/-- ATTN (R188): the pending set holds a kind that the mask enables. -/
def attn (s : State) : Bool := !s.held && decide (s.link.raised &&& s.link.mask ≠ 0)

/-! ### Lamps and LEDs (R94 to R96) -/

/-- The patterns (R94). -/
inductive Pattern where
  | dark | steady | slow | fast
  deriving DecidableEq, Repr

/-- A pattern's phase at a theatre-clock reading (R94). -/
def Pattern.lit (now : Stamp) : Pattern → Bool
  | .dark => false
  | .steady => true
  | .slow => decide (now.toNat % 1000 < 500)
  | .fast => decide (now.toNat % 250 < 125)

/-- The pattern of a fitted seat's lamp (R95). -/
def seatLamp (s : State) (seat : Seat) : Pattern :=
  let held := s.panel.seats[seat]
  let place := floorPlace s s.straps.station seat
  if s.held || !fitted s seat then .dark
  else if held.flash.isSome then .fast
  else if held.correct then .steady
  else if place = 1 then .steady
  else if 1 < place then .slow
  else if s.engine.state.isOpen && lockedOut s s.straps.station seat (teamOf (some s.straps.role)) then .fast
  else .dark

/-- The pattern of a fitted seat's choice LED (R96). -/
def choiceLed (s : State) (seat : Seat) (c : Choice) : Pattern :=
  let chosen := (s.panel.seats[seat].chosen).any fun a => decide (a.choice = c)
  if s.held || !fitted s seat then .dark
  else match s.panel.reveal with
    | none => if chosen then .steady else .dark
    | some set => if inSet set c then .fast else if chosen then .slow else .dark

/-- LDRV0 to LDRV4 for a selected seat: the lamp and the LEDs A to D, as lit now (R94, 11.7). -/
def seatDrive (s : State) (seat : Seat) : List Bool :=
  (seatLamp s seat).lit s.clock.now :: (List.finRange 4).map fun c => (choiceLed s seat c).lit s.clock.now

/-- The seat selects that the scan may drive; the others are held inactive (11.7). -/
def seatSelectUsed (s : State) (seat : Seat) : Bool := !s.held && fitted s seat

/-! ### The desk display (R97) -/

/-- The five fields of the display, as shown now; `none` is a blank field. -/
structure DeskDisplay where
  total     : Option Int
  rank      : Option Nat
  countdown : Option Nat
  uncertain : Bool
  lineFault : Bool
  deriving DecidableEq, Repr

/-- The display clamp (R97). -/
def clampDisplay (t : Int) : Int := max Config.displayFloor (min t Config.displayTop)

/-- The own team's entry in the standings list (R97). -/
def ownStanding (s : State) : Option Standing :=
  match s.straps.role with
  | .presenter => none
  | .desk t => s.score.standings.find? fun x => decide (x.team = t)

/-- The countdown as shown now: blank while the timer is CLEAR, and in the dark phase of its blinking (R97). -/
def shownCountdown (s : State) : Option Nat :=
  if s.clock.timer.warned && !Pattern.lit s.clock.now .slow then none else s.clock.timer.countdown s.clock.now

/-- The desk display (R97); a presenter station's display pins stay dark (11.7). -/
def deskDisplay (s : State) : DeskDisplay :=
  if s.held ∨ s.straps.role = .presenter then
    { total := none, rank := none, countdown := none, uncertain := false, lineFault := false }
  else
    { total := (ownStanding s).map fun x => clampDisplay x.total
      rank := (ownStanding s).map (·.rank)
      countdown := shownCountdown s
      uncertain := s.store.adrift
      lineFault := s.line.fault }

end Sys2Proof.Machine
end

