-- ==== Sys2Proof/Safety.lean ====
section
/-! DEFINITION. What a sound station is: the conditions that the manual says hold at every step, each as a predicate
of the state. -/

namespace Sys2Proof.Safety

open Machine

/-! ### Scores (R99, R151, R154, R164) -/

/-- Ascending order of station and then seat, no seat twice (R151). -/
abbrev recordsOrdered (l : List SeatRecord) : Prop :=
  l.Pairwise fun a b => a.station < b.station ∨ (a.station = b.station ∧ a.seat < b.seat)

/-- The sum of the totals of the seat records whose station the roster gives a team (R154). -/
def attachedSum (s : State) (t : Team) : Int :=
  sumTotals (fun r => decide (attachedTeam s r.station = some t)) s.score.records

/-- The records are in order, and each team total is the sum of its seats' totals (R151, R154). -/
abbrev scoresAddUp (s : State) : Prop :=
  recordsOrdered s.score.records ∧ ∀ t : Team, s.score.totals[t] = attachedSum s t

/-- A record's fields lie in their ranges (R151). -/
abbrev recordInRange (r : SeatRecord) : Prop :=
  -9999 ≤ r.total ∧ r.total ≤ 29999 ∧ r.streak ≤ 15 ∧ -750 ≤ r.lastAward ∧ r.lastAward ≤ 1687

/-- A question's fields lie in their ranges (R99). -/
abbrev questionInRange (q : Question) : Prop :=
  1 ≤ q.number ∧ q.number ≤ 255 ∧ q.base ≤ 250 ∧ q.penalty ≤ 250 ∧ 1 ≤ q.stake ∧ q.stake ≤ 3
    ∧ 1000 ≤ q.windowMs ∧ q.windowMs ≤ 120000 ∧ q.lead ≤ 30 ∧ 2 ≤ q.choices ∧ q.choices ≤ 4

/-- The question record and every seat record lie in their ranges (R99, R151). -/
def rangesHold (s : State) : Prop :=
  (∀ q, s.engine.question = some q → questionInRange q) ∧ ∀ r ∈ s.score.records, recordInRange r

/-! ### Polls and buzzes (R116, R117, R135, R136) -/

/-- Ascending order of station and then seat, no seat twice (R135). -/
abbrev pollOrdered (l : List PollRecord) : Prop :=
  l.Pairwise fun a b => a.station < b.station ∨ (a.station = b.station ∧ a.seat < b.seat)

/-- The poll table is in order and each count is the number of its records with that choice (R135, R136). -/
abbrev tallyAgrees (s : State) : Prop :=
  pollOrdered s.poll.table ∧
    ∀ c : Choice, s.poll.tally[c] = s.poll.table.countP fun r => decide (r.choice = c)

/-- The buzz queue (R116, R117): at most 16 entries in strictly ascending key order, each at the place that its key
names, and none of a unit in the lockout set. -/
abbrev buzzSound (s : State) : Prop :=
  s.buzz.queue.length ≤ 16 ∧ s.buzz.queue.Pairwise (fun a b => a.key < b.key)
    ∧ s.buzz.queue.Pairwise (fun a b => ¬(a.station = b.station ∧ a.seat = b.seat))
    ∧ (∀ b ∈ s.buzz.queue, b.station = keyStation b.key ∧ b.seat = keySeat b.key ∧ b.e = keyOrder b.key)
    ∧ ∀ b ∈ s.buzz.queue, lockedOut s b.station b.seat (some b.team) = false

/-! ### Round (R98, R114, R116) -/

/-- The timer condition, the question record, the pass and the queues that belong to each round state (R98, R114,
R116). -/
def roundAgrees (s : State) : Prop :=
  match s.engine.state, s.engine.question with
  | .standby, q | .closed, q =>
    q = none ∧ s.clock.timer.cond = .clear ∧ s.engine.pass = none ∧ s.buzz.queue = [] ∧ s.poll.table = []
  | .opened, some q =>
    s.clock.timer.cond = .running ∧ s.engine.pass = none
      ∧ (q.type = .buzz → s.poll.table = []) ∧ (q.type = .poll → s.buzz.queue = [])
  | .halted, some q =>
    s.clock.timer.cond = .halted ∧ s.clock.timer.haltStamp.isSome ∧ s.engine.pass = none
      ∧ (q.type = .buzz → s.poll.table = []) ∧ (q.type = .poll → s.buzz.queue = [])
  | .expired, some q =>
    s.clock.timer.cond = .expired ∧ s.engine.pass = none
      ∧ (q.type = .buzz → s.poll.table = []) ∧ (q.type = .poll → s.buzz.queue = [])
  | .scoring, some q =>
    s.clock.timer.cond = .stopped ∧ s.engine.pass.isSome ∧ q.type = .poll ∧ s.buzz.queue = []
  | _, none => False

/-! ### Receive store (R63, R67, R69 to R72) -/

/-- The capacities of the receive store, and the health state that follows its count (R63, R67, R69 to R72). -/
abbrev storeSound (s : State) : Prop :=
  s.store.queue.length ≤ 4 ∧ s.store.busyRun ≤ 3 ∧ s.store.count ≤ 255 ∧ s.store.longIdles < 32
    ∧ (s.store.health = .off → s.store.count = 255)
    ∧ (s.store.health ≠ .off → s.store.health = healthOf s.store.count)

/-! ### Transmit queue (R41, R43) -/

/-- At most 12 entries in ascending key order with retry counts to 15, of which at most one is in flight
(R41, R43). -/
abbrev queueSound (s : State) : Prop :=
  s.sched.queue.length ≤ 12 ∧ s.sched.queue.Pairwise (fun a b => a.key ≤ b.key)
    ∧ (∀ e ∈ s.sched.queue, e.retry ≤ 15) ∧ (s.sched.queue.filter (·.inFlight)).length ≤ 1

/-! ### Roster (R167, R171) -/

/-- The own entry is present with its strapped code, and a catch-up in NONE holds nothing (R167, R171). -/
abbrev rosterSound (s : State) : Prop :=
  rosterOf s s.straps.station = { code := some s.straps.role, present := true }
    ∧ (s.roster.catchUp.state = .none → s.roster.catchUp = catchUpNone)
    ∧ (s.roster.catchUp.state = .waiting → s.roster.catchUp.deadline.isSome)
    ∧ (s.roster.catchUp.state = .done → s.roster.catchUp.deadline = none)

/-! ### Transmitters at rest (R9, R43, R183, R188) -/

/-- A desk link that sends nothing has no reply waiting and no enabled notice pending; at most two slots are held, and
a reply being sent holds the first (R183, R188). -/
def linkSettled (s : State) : Prop :=
  s.link.replies.length ≤ 2
    ∧ (s.link.tx = .idle → s.link.replies = [] ∧ s.link.raised &&& s.link.mask = 0)
    ∧ ∀ bytes, s.link.tx = .reply bytes → s.link.replies ≠ []

/-- A line transmitter at rest is where the line, the health and the queue put it, with nothing that could begin
(R9, R10, R43). -/
def lineSettled (s : State) : Prop :=
  match s.line.tx with
  | .silent => maySend s = false ∨ (lineIdle s = true ∧ offered s = none) ∨ (lineIdle s = false ∧ s.sched.queue = [])
  | .ready => maySend s = true ∧ lineIdle s = false ∧ s.sched.queue ≠ []
  | .defer => maySend s = true ∧ lineIdle s = true ∧ s.store.health = .quiet ∧ (offered s).isSome
  | _ => True

/-- Both transmitters are at rest or at work, wherever RESET does not hold the part. -/
def settled (s : State) : Prop := s.held = false → linkSettled s ∧ lineSettled s

/-! ### Frames -/

/-- The blocks of the part (00_scope, section 2). -/
inductive Block where
  | line | sched | store | panel | clock | engine | buzz | poll | score | roster | link
  deriving DecidableEq, Repr

/-- `t` differs from `s` at most in the blocks of a list. -/
def changesOnly (blocks : List Block) (s t : State) : Prop :=
  t.power = s.power ∧ t.straps = s.straps ∧ t.pending = s.pending
    ∧ (.line ∉ blocks → t.line = s.line) ∧ (.sched ∉ blocks → t.sched = s.sched)
    ∧ (.store ∉ blocks → t.store = s.store) ∧ (.panel ∉ blocks → t.panel = s.panel)
    ∧ (.clock ∉ blocks → t.clock = s.clock) ∧ (.engine ∉ blocks → t.engine = s.engine)
    ∧ (.buzz ∉ blocks → t.buzz = s.buzz) ∧ (.poll ∉ blocks → t.poll = s.poll)
    ∧ (.score ∉ blocks → t.score = s.score) ∧ (.roster ∉ blocks → t.roster = s.roster)
    ∧ (.link ∉ blocks → t.link = s.link)

/-- The pending set that a list of notices makes, each with whether it was raised (R187). -/
def pendingOf : List (Bool × Notice) → BitVec 7
  | [] => 0
  | (c, n) :: rest => (if c then BitVec.twoPow 7 (noticeBit n) else 0) ||| pendingOf rest

/-- `t`'s desk link is `s`'s with these notices raised. -/
abbrev onlyRaises (notices : List (Bool × Notice)) (s t : State) : Prop :=
  t.link = { s.link with raised := s.link.raised ||| pendingOf notices }

/-! ### Frames begun, outcomes and the health count -/

/-- Entry `e`'s frame begins: the line goes dominant with its first start bit, the receiver follows it from the first
SYN, the queue changes in the in-flight mark of that entry alone, and the pending list in the changed marks that an
ANSWER's start clears (R9, R43 to R45, R62). -/
def frameStarts (e : TxEntry) (s t : State) : Prop :=
  t.line = { s.line with
      level := .unsettled, idleSince := none, rx := .hunt, disturbed := false, tx := .arbitrate
      frame := frameChars e.kind e.key (buildBody e s), sent := 0 }
    ∧ inFlight? t = some { e with inFlight := true }
    ∧ (∃ front back, s.sched.queue = front ++ e :: back
        ∧ t.sched.queue = front ++ { e with inFlight := true } :: back)
    ∧ t.sched.answers = if e.kind = .answer then s.sched.answers.map fun a => { a with changed := false }
        else s.sched.answers

/-- The scheduler after a veto or a disturbance of entry `e`'s frame: a condemned entry leaves uncounted (R56), one
whose count would reach 16 is dropped with what an ANSWER's list held (R50), any other counts one retry (R49). -/
def failedSched (e : TxEntry) (q : Scheduler) : Scheduler :=
  if e.discard then { q with queue := q.queue.filter fun x => !x.inFlight }
  else if 16 ≤ e.retry + 1 then
    { queue := q.queue.filter fun x => !x.inFlight, answers := if e.kind = .answer then [] else q.answers }
  else
    { queue := q.queue.map fun x => if x.inFlight then { x with retry := x.retry + 1, inFlight := false } else x
      answers := if e.kind = .answer then q.answers.map fun a => { a with changed := false } else q.answers }

/-- The desk link of `u` is that of `s` after a failed outcome of entry `e`: HEALTH where the state changed, and FAULT
with UNDELIVERABLE where the entry was dropped (R50, R70). -/
def failedLink (e : TxEntry) (s u : State) : Prop :=
  let drops := !e.discard && decide (16 ≤ e.retry + 1)
  u.link = { s.link with
    faultReason := if drops then some .undeliverable else s.link.faultReason
    raised := s.link.raised ||| pendingOf [(decide (s.store.health ≠ u.store.health), .health), (drops, .fault)] }

/-- An increase by `n` carries the count above 255 (R69). -/
def entersOff (n : Nat) (t : Store) : Bool := decide (t.health ≠ .off ∧ 255 < t.count + n)

/-- The receive store after an increase of the health count by `n`: unmoved in OFF, OFF with 255 where the count would
pass 255, and otherwise the state of the new count (R69 to R71). -/
def chargedStore (n : Nat) (t : Store) : Store :=
  if t.health = .off then t
  else if 255 < t.count + n then { t with count := 255, longIdles := 0, health := .off }
  else { t with count := t.count + n, health := healthOf (t.count + n) }

/-- The line interface after that increase: where OFF is entered the transmitter is SILENT, and a veto or a mark it was
giving stops (R71). -/
def chargedLine (n : Nat) (t : Store) (l : LineIf) : LineIf :=
  if entersOff n t then
    { l with
      tx := .silent
      rx := match l.rx with
        | .window w => .window { w with driven := false }
        | .tail x => .tail { x with mine := none }
        | rx => rx }
  else l

/-- The scheduler after the delivery of entry `e`: the entry has left; what a live ANSWER carried unchanged leaves the
pending list, and a new entry with count 0 stands for what stays, its changed marks cleared (R47, R52, R56). -/
def deliveredSched (e : TxEntry) (s u : State) : Prop :=
  let left := s.sched.queue.filter fun x => !x.inFlight
  (e.kind ≠ .answer ∨ e.discard = true → u.sched = { s.sched with queue := left })
    ∧ (e.kind = .answer → e.discard = false → s.sched.queue.length ≤ 12 →
        (∀ x ∈ s.sched.queue, x.kind = .answer → x.discard = false → x.inFlight = true) →
        let kept := (s.sched.answers.filter (·.changed)).map fun a => { a with changed := false }
        u.sched.answers = kept ∧ (kept = [] → u.sched.queue = left)
        ∧ ∀ least ∈ kept, (∀ a ∈ kept, least.e ≤ a.e) → u.sched.queue = insertByKey {
            kind := .answer, key := mkKey 4 least.e s.straps.station 0, question := e.question, values := {}
            retry := 0, discard := false, inFlight := false } left)

/-! ### Verdicts -/

/-- The verdict that the two halves of a window show, with what the rest of the line does in them and what this station
drives (R1, R15, R16). -/
def verdictOf (w : Window) (faultHalf busyHalf : Bool) : Verdict :=
  if faultHalf = true ∨ (w.driven = true ∧ w.decision = .faultVeto) then .faultVetoed
  else if busyHalf = true ∨ (w.driven = true ∧ w.decision = .busyVeto) then .busyVetoed
  else .taken

/-- The commands by which verdict `v` of window `w` is acted on, with the reading captured at the window's end: VERDICT
where the line is recessive then, and HELD_VERDICT_ACTED after it was held (R16, R17, R60). RESET does not hold the
part, and it drives no clear pulse. -/
abbrev actsOn (w : Window) (v : Verdict) (stamp : Stamp) (c : Instr) (s : State) : Prop :=
  s.held = false ∧ s.line.rx = .window w ∧ s.line.tx ≠ .clear
    ∧ ((w.held = some { verdict := v, stamp := stamp } ∧ c = .heldVerdictActed)
      ∨ (w.held = none ∧ stamp = s.clock.now
        ∧ ∃ faultHalf busyHalf, c = .verdict faultHalf busyHalf false ∧ v = verdictOf w faultHalf busyHalf))

/-- The frame of a window reads as one of kind `k` with no fault in it, and no fault veto is decided on it (R59). -/
abbrev readsClean (w : Window) (k : Kind) : Prop :=
  w.frame.faults = [] ∧ w.decision ≠ .faultVeto ∧ kindRead w.frame.chars = some k

/-- The receive store after the decrease for a frame taken: where the count is above 0 and the state not OFF it falls by
1, with the state of the new count (R69, R70). -/
def fallenStore (t : Store) : Store :=
  if t.health ≠ .off ∧ 0 < t.count then { t with count := t.count - 1, health := healthOf (t.count - 1) } else t

/-- The place that a taken frame of kind `k` fills, or as a ROLL or HELLO claims (R63, R65). -/
def placeOf (w : Window) (k : Kind) (stamp : Stamp) : RxEntry :=
  { kind := k, key := keyOfBytes w.frame.chars, body := (w.frame.chars.drop 6).take (numAt w.frame.chars 5)
    stamp := stamp, marks := [], tailCut := false, claimed := k.hasTail }

/-- The receive store after a take: the count falls, and the frame is stored with the run count back at 0, or dropped
with adrift set where no place is free (R60, R63, R64, R67, R69). -/
def takenStore (w : Window) (k : Kind) (stamp : Stamp) (t : Store) : Store :=
  if t.queue.length < 4 then { fallenStore t with queue := t.queue ++ [placeOf w k stamp], busyRun := 0 }
  else { fallenStore t with adrift := true }

/-- The line interface after the verdict TAKEN on a frame of kind `k`: in TAIL behind a ROLL or HELLO, with the own mark
to give where `marks` says so, and otherwise in WAIT-IDLE (R16, R18). -/
def takenLine (k : Kind) (marks : Bool) (s : State) : LineIf :=
  { s.line with
    disturbed := false
    tx := if k.hasTail && marks then .mark else s.line.tx
    rx := if k.hasTail then .tail {
            marks := [], before := none
            mine := if marks then some (markByte s.straps.station s.straps.role) else none }
          else .waitIdle }

/-- The roster of `u` where adrift is set: the catch-up holds nothing (R73, R171; log entry 8). -/
def catchUpEnded (s u : State) : Prop :=
  u.roster = { s.roster with catchUp := { state := .none, expected := [], received := [], deadline := none } }

/-- What a setting of adrift raises: HEALTH where it was clear, and CATCHUP where a catch-up ends (R73, R171). -/
def adriftNotices (s : State) : List (Bool × Notice) :=
  [(decide (s.store.adrift = false), .health), (decide (s.roster.catchUp.state ≠ .none), .catchUp)]

/-- The last fault record is of the first fault found in the frame of window `w` (R61, R77). -/
def recordedStore (w : Window) (t : Store) : Store :=
  match w.frame.faults with
  | m :: _ => { t with lastFault := { cause := some m.cause, position := m.position, key := keyOfBytes w.frame.chars } }
  | [] => t

/-! ### Turns -/

/-- RESET does not hold the part, and the round engine's next item is the front frame `f` (R101). -/
abbrev frontTurn (s : State) (f : RxEntry) : Prop :=
  s.held = false ∧ s.store.queue.head? = some f ∧ nextWork s = some .frame

/-- The current question while it is open (R98). -/
abbrev openQuestionIs (s : State) (q : Question) : Prop := s.engine.state.isOpen = true ∧ s.engine.question = some q

/-- The reason with which the question test refuses a frame, if it does: R102's table. -/
def questionFault (s : State) (f : RxEntry) : Option Reason :=
  let number := clampNumber (numAt f.body 0)
  match s.engine.state.isOpen, s.engine.question with
  | true, some q =>
    if number ≠ q.number then some .question
    else if q.type = .poll ∧ (f.kind = .buzz ∨ f.kind = .verdict) then some .state
    else if q.type = .buzz ∧ (f.kind = .answer ∨ f.kind = .reveal) then some .state
    else if f.kind = .halt ∧ s.engine.state ≠ .opened then some .state
    else if f.kind = .resume ∧ s.engine.state ≠ .halted then some .state
    else none
  | _, _ => if s.engine.lastNo ≠ 0 ∧ number = s.engine.lastNo then some .late else some .state

/-- The transmit queue after a purge: the entries that satisfy the test go, one in flight being condemned (R53 to
R56). -/
def condemned (p : TxEntry → Bool) (q : List TxEntry) : List TxEntry :=
  q.filterMap fun e => if p e then (if e.inFlight then some { e with discard := true } else none) else some e

/-- The scheduler after a request for a HELLO, where the occasion stands: a standing HELLO is left and a full queue
takes none (R42, R172). -/
def helloIf (due : Bool) (st : Station) (q : Scheduler) : Scheduler :=
  if due = true ∧ (∀ e ∈ q.queue, e.kind ≠ .hello) ∧ q.queue.length < 12 then
    { q with
      queue := insertByKey
        { kind := .hello, key := mkKey 6 0 st 0, question := 0, values := {}, retry := 0, discard := false
          inFlight := false } q.queue }
  else q

/-- A CLEAR timer (R79, R81). -/
abbrev timerClear : Timer :=
  { cond := .clear, origin := 0, limit := 0, warnPoint := none, warned := false, start := 0, offset := 0
    previous := none, haltStamp := none, due := false }

/-- What the ending of question `q` makes of state `h`, the frame that ends it not yet released (R53, R107, R108,
R172). -/
def ended (h : State) (q : Question) (u : State) : Prop :=
  changesOnly [.sched, .clock, .engine, .buzz, .poll, .link] h u
    ∧ u.engine = { h.engine with state := .closed, lastNo := q.number, question := none, pass := none }
    ∧ u.buzz = { h.buzz with queue := [] }
    ∧ u.poll = { table := [], tally := Vector.replicate 4 0 }
    ∧ u.clock = { h.clock with timer := timerClear }
    ∧ u.sched = helloIf (h.store.adrift && decide (h.roster.catchUp.state = .none)) h.straps.station {
        queue := condemned (fun e => decide (e.kind = .buzz) || decide (e.kind = .answer)) h.sched.queue
        answers := [] }
    ∧ onlyRaises [(decide (h.buzz.queue ≠ []), .floor), (decide (h.poll.tally ≠ Vector.replicate 4 0), .poll),
        (true, .round)] h u

/-- The score unit of `u` is that of `h` given a seat: a record created where it has none, and the list recomputed
then (R152, R164). -/
def seatGiven (h : State) (st : Station) (seat : Seat) (u : State) : Prop :=
  u.score.totals = h.score.totals
    ∧ u.score.records = (if (recordOf h st seat).isSome then h.score.records
        else insertRecord (newRecord st seat) h.score.records)
    ∧ u.score.standings = if (recordOf h st seat).isSome then h.score.standings else standingsOf u

/-- The score unit of `u` is that of `h` with record `r` become `new`, the attached team moved by the change of the
total, and the list recomputed (R154, R158, R164). -/
def seatScored (h : State) (r new : SeatRecord) (u : State) : Prop :=
  u.score.records = h.score.records.map (fun x => if x.station = r.station ∧ x.seat = r.seat then new else x)
    ∧ (∀ k : Team, u.score.totals[k]
        = h.score.totals[k] + if attachedTeam h r.station = some k then new.total - r.total else 0)
    ∧ u.score.standings = standingsOf u

/-- Stamp `t` is at or after stamp `u` (R80). -/
def notBefore (t u : Stamp) : Bool := decide ((t - u).toNat < 2 ^ 31)

/-- RESET does not hold the part, and an input slot is free (R183). -/
abbrev slotFree (s : State) : Prop := s.held = false ∧ s.link.replies.length < 2

/-- A slot is free at a presenter station (R183, R184). -/
abbrev presenterReady (s : State) : Prop := slotFree s ∧ s.straps.role = .presenter

/-- The state with a reply formed for a record of a kind (R183, R184). -/
def withReply (kind : Byte) (status : Status) (data : List Byte) (s : State) : State :=
  { s with link := { s.link with replies := s.link.replies ++
      [{ kind := kind, status := status, inPass := s.engine.pass.isSome, data := data }] } }

/-- The state with a presenter entry placed in the transmit queue, its key of order and seat 0 (R25, R41). -/
def withEntry (kind : Kind) (question : Nat) (values : CommandValues) (s : State) : State :=
  { s with
    sched := { s.sched with
      queue := insertByKey
        { kind := kind, key := mkKey (kindClass kind) 0 s.straps.station 0, question := question, values := values
          retry := 0, discard := false, inFlight := false } s.sched.queue } }

end Sys2Proof.Safety
end

