-- ==== Sys2Proof/WellFormed.lean ====
section
/-! DEFINITION. The commands that the outside can really send: what a row of the table says of its operands beyond
their types. The machine itself answers every command. -/

namespace Sys2Proof

open Machine

/-- The record receiver over bytes none of which completes a record (R182); `none` where one does. -/
def recordProgress : RecordRx → List LinkByte → Option RecordRx
  | rx, [] => some rx
  | rx, b :: rest =>
    match rxStep rx b with
    | (next, none) => recordProgress next rest
    | (_, some _) => none

/-- Bytes that begin a record and end inside it (R182). -/
def endsInsideRecord (bytes : List LinkByte) : Bool :=
  match recordProgress .hunt bytes with
  | some rx => decide (rx ≠ .hunt)
  | none => false

/-- A command whose operands fit its row: the characters of an abandoned record have their start bits and end inside
one (R182), a malformed one is malformed (R184), and a line still dominant at a window's end was dominant in its busy
half (R16, R17). -/
def wellFormed : Instr → Bool
  | .recordAbandon chars => chars.all (fun c => !c.getLsbD 0) && endsInsideRecord (chars.map uartRead)
  | .malformedRecord kind length => malformed kind length
  | .verdict _ busyHalf stillDominant => !stillDominant || busyHalf
  | .powerUp _ | .resetAssert | .resetRelease _ | .idle | .startEdgeSeen _ | .quietStart | .longIdle
  | .characterComplete _ _ | .missingStartBit | .lost | .disturbed | .heldVerdictActed | .tailSlot _ _
  | .tailEndEmptySlot | .clearPulse | .clearPulseEnd | .stuckLine | .lineFaultClear | .acceptedPress _ _
  | .acceptedRelease _ _ | .refusalFlashEnd _ | .warn | .expiryDue | .expiryEvent | .press | .showTaken | .openTaken
  | .closeTaken | .haltTaken | .resumeTaken | .verdictTaken | .buzzTaken | .answerTaken | .revealTaken | .rollTaken
  | .helloTaken | .tallyTaken | .scorePassComplete | .catchUpDeadline | .idleWatch | .recordLost | .statusCommand
  | .standingsCommand | .floorCommand | .seatCommand _ | .votesCommand | .rosterCommand | .noticesCommand _
  | .catchUpCommand | .startShowCommand _ | .rollCommand | .openCommand .. | .verdictCommand _ _ | .closeCommand
  | .revealCommand _ | .haltCommand | .resumeCommand | .clearLineCommand | .replySent | .noticeSent | .keyScan _ =>
    true

end Sys2Proof
end

