-- ==== Sys2Proof/Certificates/Slice0/Obligations.lean ====
section
/-! DEFINITION. The statements for the provers, by the chapters of the manual. -/

open Sys2Proof Sys2Proof.Machine Sys2Proof.Safety

/-! ### The machine -/

/-- A step with a command at the front of the queue is that command's effect, with the rest of the queue waiting. -/
def Obligations.StepRunsTheFrontCommand : Prop :=
  ∀ (c : Instr) (rest : List Instr) (s : State),
    s.pending = c :: rest → step s = exec c { s with pending := rest }

/-- Every command answers a next state, leaves the queue of commands, and latches no straps, but for POWER_UP and
RESET_RELEASE (R180). While RESET or the supply holds the part, no command but those two and RESET_ASSERT changes
anything (R181; log entry 20). With no command waiting a millisecond passes, and a held part stays as it is: the
model's own choice (log entry 1); that the clock advances by 1 is R78. Nothing on the line, no SHOW frame and no
desk-link command sets the theatre clock (R78). A scan, at a presenter too, or the third reading of one key, may fall at
the next value (log entry 9). -/
def Obligations.EveryCommandAnswersAndOnlyTimeMovesTheClock : Prop :=
  ((∀ (c : Instr) (s : State), ∃ t, exec c s = .next t ∧ t.pending = s.pending
    ∧ ((∀ p pins, c ≠ .powerUp p ∧ c ≠ .resetRelease pins) → t.straps = s.straps))
  ∧ (∀ (c : Instr) (s : State), s.held = true → c ≠ .resetAssert →
    (∀ p pins, c ≠ .powerUp p ∧ c ≠ .resetRelease pins) → exec c s = .next s))
  ∧ (∀ s : State, s.pending = [] →
    (s.held = true → step s = .next s)
    ∧ (s.held = false →
        step s = .next { s with clock := { s.clock with now := s.clock.now + 1, scanned := 0 } }))
  ∧ (∀ (c : Instr) (s t : State), exec c s = .next t →
    (∀ p pins, c ≠ .powerUp p ∧ c ≠ .resetRelease pins) →
    t.clock.now = s.clock.now
      ∨ (t.clock.now = s.clock.now + 1 ∧ ((∃ readings, c = .keyScan readings)
        ∨ ∃ seat key, c = .acceptedPress seat key ∨ c = .acceptedRelease seat key)))

/-- POWER_UP of a supply become good, and RESET_RELEASE of an active RESET, latch the straps and start every block from
its reset values (R180, R181 and the rules its table names); the part runs once RESET is released and the supply good,
and a RESET that is not active is not released (log entry 20). The commands waiting stay. That no FAULT reason stands
before the first FAULT is the model's own choice (log entry 32). -/
def Obligations.PowerUpAndReleaseStartEveryBlock : Prop :=
  ∀ (pins : StrapPins) (s : State), ∃ t : State,
    exec (.powerUp { supplyGood := true, straps := pins }) s = .next { t with power := { s.power with supplyGood := true } }
    ∧ (s.power.resetActive = true →
        exec (.resetRelease pins) s = .next { t with power := { s.power with resetActive := false } })
    ∧ (s.power.resetActive = false → exec (.resetRelease pins) s = .next s)
    ∧ (s.held = false ↔ s.power = { resetActive := false, supplyGood := true })
    ∧ t.pending = s.pending
    ∧ t.straps.station.val = pins.stn.toNat ∧ t.straps.fast = pins.speed
    ∧ (pins.team = 0 → t.straps.role = .presenter ∧ t.straps.seatCount = 0)
    ∧ (∀ k : Team, pins.team.toNat = k.val + 1 →
        t.straps.role = .desk k ∧ t.straps.seatCount = pins.seats.toNat + 1)
    ∧ t.line = { level := .unsettled, idleSince := none, fault := false, rx := .waitIdle, disturbed := false
                 tx := .silent, frame := [], sent := 0 }
    ∧ t.sched = { queue := [], answers := [] }
    ∧ t.store = { queue := [], busyRun := 0, count := 0, health := .active, longIdles := 0, adrift := true
                  twin := false, lastFault := { cause := none, position := 0, key := 0 } }
    ∧ t.panel.reveal = none
    ∧ (∀ seat : Seat, t.panel.seats[seat] =
        { keys := Vector.replicate 5 { pressed := false, run := 0 }, latch := [], buzzed := false, chosen := none
          correct := false, flash := none })
    ∧ t.clock = { now := 0, scanned := 0
                  timer := { cond := .clear, origin := 0, limit := 0, warnPoint := none, warned := false, start := 0
                             offset := 0, previous := none, haltStamp := none, due := false } }
    ∧ t.engine = { state := .standby, showNo := 0, lastNo := 0, question := none
                   refusal := { kind := none, reason := none, key := 0 }, pass := none }
    ∧ t.buzz = { queue := [], lockouts := [] }
    ∧ t.poll = { table := [], tally := Vector.replicate 4 0 }
    ∧ t.score.totals = Vector.replicate 7 0
    ∧ t.score.records = ((List.finRange 8).filter fun i => decide (i.val < t.straps.seatCount)).map (fun i =>
        { station := t.straps.station, seat := i, total := 0, streak := 0, outcome := .none, lastAward := 0 })
    ∧ (t.straps.role = .presenter → t.score.standings = [])
    ∧ (∀ k, t.straps.role = .desk k → t.score.standings = [{ team := k, total := 0, rank := 1 }])
    ∧ (∀ st : Station, t.roster.entries[st] =
        if st = t.straps.station then { code := some t.straps.role, present := true }
        else { code := none, present := false })
    ∧ t.roster.catchUp = { state := .none, expected := [], received := [], deadline := none }
    ∧ t.link = { rx := .hunt, replies := [], tx := .idle, overrun := false, mask := 0, raised := 0
                 faultReason := none }

/-- RESET_ASSERT, and POWER_UP of a supply not yet good (log entry 33), hold the part and stop every output, in every
state: no dominant on the line, nothing on the desk link, ATTN inactive, every lamp, LED and display field dark; a
record partly received or sent is lost (R181). The rest stays until the release (log entry 20). -/
def Obligations.ResetAssertStopsEveryOutput : Prop :=
  ∀ s : State,
    let stopped := fun (t : State) => t.held = true
      ∧ drivesPulse t = false ∧ drivesFaultHalf t = false ∧ drivesBusyHalf t = false ∧ sendingChar t = none
      ∧ sendingLine t = none
      ∧ sendingRecord t = [] ∧ sendingTxd t = [] ∧ attn t = false
      ∧ (∀ (seat : Seat) (c : Choice), seatLamp t seat = .dark ∧ choiceLed t seat c = .dark
          ∧ seatSelectUsed t seat = false)
      ∧ deskDisplay t = { total := none, rank := none, countdown := none, uncertain := false, lineFault := false }
      ∧ t.line.tx = .silent ∧ t.link = { s.link with rx := .hunt, tx := .idle }
      ∧ t.straps = s.straps ∧ t.sched = s.sched ∧ t.store = s.store ∧ t.panel = s.panel ∧ t.clock = s.clock
      ∧ t.engine = s.engine ∧ t.buzz = s.buzz ∧ t.poll = s.poll ∧ t.score = s.score ∧ t.roster = s.roster
      ∧ t.pending = s.pending
    (∃ t, exec .resetAssert s = .next t ∧ t.power = { s.power with resetActive := true } ∧ stopped t)
    ∧ ∀ pins : StrapPins, ∃ t, exec (.powerUp { supplyGood := false, straps := pins }) s = .next t
        ∧ t.power = { s.power with supplyGood := false } ∧ stopped t

/-! ### The transmitters -/

/-- What every step ends with moves only the two transmitters: the receiver stands, but that it follows an own frame
that begins from its first SYN (R62), the queue keeps its entries but for the in-flight mark, the slots and the mask
stand, and no notice is raised (R9, R43, R183, R188). The desk-link transmitter, when idle, sends the next waiting
reply, and with none waiting a notice of the first kind that is both pending and enabled, which leaves the pending set;
at work it goes on (R183, R187, R188). The bytes of a reply are those of R39 and R40: the lead byte, the kind, the
length, the status and reason, the flags of overrun and of a pass in flight, and the data; a FAULT notice's reason is
R40's, 0 standing for none raised so far (log entry 32). A block's raising adds its kind to the pending set (R187). -/
def Obligations.SettlingStartsOnlyTheTransmitters : Prop :=
  (∀ s : State, changesOnly [.line, .sched, .link] s (settle s)
    ∧ (settle s).line.fault = s.line.fault
    ∧ ((settle s).line.rx = s.line.rx ∧ (settle s).line.disturbed = s.line.disturbed
      ∨ (settle s).line.tx = .arbitrate ∧ s.line.tx ≠ .arbitrate ∧ (settle s).line.rx = .hunt
        ∧ (settle s).line.disturbed = false)
    ∧ (settle s).sched.queue.map (fun e => { e with inFlight := false })
        = s.sched.queue.map (fun e => { e with inFlight := false })
    ∧ (settle s).sched.answers.map (fun a => { a with changed := false })
        = s.sched.answers.map (fun a => { a with changed := false })
    ∧ (settle s).link.rx = s.link.rx ∧ (settle s).link.replies = s.link.replies
    ∧ (settle s).link.mask = s.link.mask ∧ (settle s).link.faultReason = s.link.faultReason
    ∧ (settle s).link.raised &&& s.link.raised = (settle s).link.raised)
  ∧ (∀ s : State,
    (∀ r rest, s.link.tx = .idle → s.link.replies = r :: rest →
      (settle s).link = { s.link with tx := .reply (replyBytes s.link.overrun r), overrun := false })
    ∧ (∀ n : Notice, s.link.tx = .idle → s.link.replies = [] →
        (s.link.raised &&& s.link.mask).getLsbD (noticeBit n) = true →
        (∀ m : Notice, noticeBit m < noticeBit n →
          (s.link.raised &&& s.link.mask).getLsbD (noticeBit m) = false) →
        (settle s).link = { s.link with
          tx := .notice (if n = .fault then [0xA5, 0x45, 1, faultReasonCode s.link.faultReason]
            else [0xA5, byteOf (0x40 + noticeBit n), 0])
          raised := s.link.raised &&& ~~~(BitVec.twoPow 7 (noticeBit n)) })
    ∧ (s.link.tx = .idle → s.link.replies = [] → s.link.raised &&& s.link.mask = 0 → (settle s).link = s.link)
    ∧ (s.link.tx ≠ .idle → (settle s).link = s.link))
  ∧ (∀ (overrun : Bool) (r : Reply), replyBytes overrun r
      = [0xA5, r.kind, byteOf (3 + r.data.length)]
        ++ (match r.status with
          | .ok => [0, 0]
          | .adjusted => [1, 0]
          | .refused .notPresenter => [2, 1]
          | .refused .busy => [2, 2]
          | .refused .stale => [2, 3]
          | .refused .state => [2, 4]
          | .refused .duplicate => [2, 5]
          | .refused .malformed => [2, 6])
        ++ [byteOf ((if overrun then 1 else 0) + if r.inPass then 2 else 0)] ++ r.data)
  ∧ [none, some FaultReason.stuck, some .undeliverable, some .twin].map faultReasonCode = [0, 1, 2, 3]
  ∧ [Notice.floor, .round, .standings, .poll, .health, .fault, .catchUp].map noticeBit = [0, 1, 2, 3, 4, 5, 6]
  ∧ ∀ (n : Notice) (s : State),
    raise n s = { s with link := { s.link with raised := s.link.raised ||| BitVec.twoPow 7 (noticeBit n) } }

/-- An entry enters in ascending key order, after those of an equal key (R41). The transmit queue offers its
lowest-keyed eligible entry, and none only while one is in flight or none is eligible; every entry is eligible but a
TALLY whose three conditions do not hold together (R43, R176). The line is IDLE from its 2 Tc until it next goes
dominant, LONG IDLE reached or not, but that a tail overrides it (R4, R20). A transmitter at rest (R9, R10, R43, R44):
SILENT where the station may not send or nothing is offered on an IDLE line; on an IDLE line the offered entry starts,
or waits in DEFER at a QUIET station, but that an entry offered there after LONG IDLE starts at once (R10); otherwise
READY while the queue holds an entry. A frame that starts changes of the queue the in-flight mark alone, and an
ANSWER's clears every changed mark (R45). -/
def Obligations.LowestEligibleEntryStarts : Prop :=
  ((∀ (e : TxEntry) (q : List TxEntry), q.Pairwise (fun a b => a.key ≤ b.key) →
    insertByKey e q = q.filter (fun x => decide (x.key ≤ e.key)) ++ e :: q.filter fun x => decide (e.key < x.key))
  ∧ ∀ (s : State),
    let lifted := s.store.queue = [] ∧ s.engine.pass = none
      ∧ (s.engine.state = .closed ∨ s.engine.state = .standby)
    (inFlight? s = none ↔ ∀ x ∈ s.sched.queue, x.inFlight = false)
    ∧ (∀ e, inFlight? s = some e → e ∈ s.sched.queue ∧ e.inFlight = true)
    ∧ (offered s = none ↔ (∃ x ∈ s.sched.queue, x.inFlight = true)
      ∨ ∀ x ∈ s.sched.queue, x.kind = .tally ∧ ¬lifted)
    ∧ ∀ e, offered s = some e → (∀ x ∈ s.sched.queue, x.inFlight = false) ∧ (e.kind = .tally → lifted)
      ∧ (∃ front back, s.sched.queue = front ++ e :: back ∧ ∀ x ∈ front, x.kind = .tally ∧ ¬lifted)
      ∧ (s.sched.queue.Pairwise (fun a b => a.key ≤ b.key) →
        ∀ x ∈ s.sched.queue, (x.kind = .tally → lifted) → e.key ≤ x.key))
  ∧ (∀ s : State, lineIdle s = true ↔
      (s.line.level = .idle ∨ s.line.level = .longIdle) ∧ ∀ t, s.line.rx ≠ .tail t)
  ∧ (∀ s : State, s.line.tx = .silent ∨ s.line.tx = .ready ∨ s.line.tx = .defer →
    (maySend s = false → (settle s).line = { s.line with tx := .silent } ∧ (settle s).sched = s.sched)
    ∧ (maySend s = true → lineIdle s = true → offered s = none →
        (settle s).line = { s.line with tx := .silent } ∧ (settle s).sched = s.sched)
    ∧ (∀ e, maySend s = true → lineIdle s = true → offered s = some e →
        s.store.health ≠ .quiet ∨ (s.line.level = .longIdle ∧ s.line.tx ≠ .defer) → frameStarts e s (settle s))
    ∧ (∀ e, maySend s = true → lineIdle s = true → offered s = some e → s.store.health = .quiet →
        s.line.level = .idle ∨ s.line.tx = .defer →
        (settle s).line = { s.line with tx := .defer } ∧ (settle s).sched = s.sched)
    ∧ (maySend s = true → lineIdle s = false →
        (settle s).line = { s.line with tx := if s.sched.queue = [] then .silent else .ready }
        ∧ (settle s).sched = s.sched))

/-! ### Frames, keys and bodies -/

/-- The key and the mark are laid out as R36 gives: each key byte, each mark, and the station and seat byte, and what a
receiver reads of them. A multi-byte value goes high byte first (2.8). -/
def Obligations.KeysAndMarksAreLaidOut : Prop :=
  (∀ (cls order : Nat) (st : Station) (seat : Seat), cls < 8 → order < 2 ^ 21 →
    (mkKey cls order st seat).toNat = cls * 2 ^ 29 + order * 2 ^ 8 + st.val * 8 + seat.val
    ∧ bytes4 (mkKey cls order st seat) = [byteOf (cls * 32 + order / 2 ^ 16), byteOf (order / 2 ^ 8), byteOf order,
        byteOf (st.val * 8 + seat.val)]
    ∧ keyOfBytes (bytes4 (mkKey cls order st seat)) = mkKey cls order st seat
    ∧ keyClass (mkKey cls order st seat) = cls ∧ keyOrder (mkKey cls order st seat) = order
    ∧ keyStation (mkKey cls order st seat) = st ∧ keySeat (mkKey cls order st seat) = seat)
  ∧ (∀ (v : BitVec 16) (x : BitVec 32), (bytes2 v).map (·.toNat) = [v.toNat / 256, v.toNat % 256]
    ∧ (bytes4 x).map (·.toNat)
      = [x.toNat / 2 ^ 24, x.toNat / 2 ^ 16 % 256, x.toNat / 2 ^ 8 % 256, x.toNat % 256])
  ∧ (∀ st : Station, (markByte st .presenter).toNat = st.val * 8)
  ∧ (∀ (st : Station) (k : Team), (markByte st (.desk k)).toNat = st.val * 8 + (k.val + 1))
  ∧ (∀ (st : Station) (r : Role), upperStation (markByte st r) = st ∧ markRole (markByte st r) = r)
  ∧ (∀ (st : Station) (seat : Seat), (seatByte st seat).toNat = st.val * 8 + seat.val
      ∧ upperStation (seatByte st seat) = st ∧ lowerSeat (seatByte st seat) = seat)

/-- The code, the class and the lengths of each kind (R27). The test value of the check, and the residue by which a
receiver may judge it (R28); the characters of a frame in the order they are sent (R24). A frame sent as R24, R27 and
R28 lay it out is read with no fault by every receiver that reads its characters clean: the extent is reached at the
last check character and not before, and the kind, key and body read are those sent. -/
def Obligations.FrameAsSentReadsWithoutFault : Prop :=
  [Kind.newShow, .halt, .resume, .openQ, .closeQ, .verdict, .buzz, .answer, .reveal, .roll, .hello, .tally].map
      (fun k => (kindCode k, kindClass k, kindLengths k))
    = [(0x01, 0, [1]), (0x02, 1, [1]), (0x03, 1, [1]), (0x04, 2, [8]), (0x05, 2, [1]), (0x06, 2, [3]), (0x07, 3, [2]),
      (0x08, 4, [5, 8, 11, 14, 17, 20, 23, 26]), (0x09, 5, [2]), (0x0A, 6, [2]), (0x0B, 6, [0]),
      (0x0C, 7, [7, 9, 12, 14, 17, 19, 22, 24])]
  ∧ ((crc [0x31, 0x32, 0x33, 0x34, 0x35, 0x36, 0x37, 0x38, 0x39] = 0x29B1
  ∧ (∀ (bytes : List Byte) (check : BitVec 16), crc (bytes ++ bytes2 check) = 0 ↔ check = crc bytes)
  ∧ ∀ (k : Kind) (key : Key) (body : List Byte),
      frameChars k key body = [0xD2, 0xD2] ++ bytes4 key ++ [kindCode k, byteOf body.length] ++ body
        ++ bytes2 (crc (bytes4 key ++ [kindCode k, byteOf body.length] ++ body))))
  ∧ (∀ (k : Kind) (key : Key) (body : List Byte), keyClass key = kindClass k → body.length ∈ kindLengths k →
    (k = .tally → 1 ≤ numAt body 3 ∧ numAt body 3 ≤ 8 ∧ body.length = tallyLength (numAt body 3)) →
    let read := fun n => (((frameChars k key body).drop 2).take n).foldl (fun f c => readChar f c false)
      { chars := [], faults := [] }
    (read (8 + body.length)).faults = [] ∧ extentReached (read (8 + body.length)) = true
    ∧ kindRead (read (8 + body.length)).chars = some k
    ∧ keyOfBytes (read (8 + body.length)).chars = key
    ∧ ((read (8 + body.length)).chars.drop 6).take (numAt (read (8 + body.length)).chars 5) = body
    ∧ ∀ n < 8 + body.length, extentReached (read n) = false ∧ extentLost (read n) false = false)

/-- The body of an offered frame is built from the entry and the station's state at that instant (R44). A TALLY's is
the body of R46, which AnswerAndTallyBodiesReadBack reads byte by byte. -/
def Obligations.BodyIsBuiltFromEntryAndState : Prop :=
  ∀ (e : TxEntry) (s : State),
    (e.kind = .newShow → buildBody e s = [e.values.showNo])
    ∧ (e.kind = .halt ∨ e.kind = .resume ∨ e.kind = .closeQ → buildBody e s = [byteOf e.question])
    ∧ (e.kind = .openQ → buildBody e s = [byteOf s.engine.showNo, byteOf e.question, e.values.mode &&& 0xF7#8,
        e.values.base, e.values.penalty, e.values.stake, e.values.window, e.values.lead])
    ∧ (e.kind = .verdict → buildBody e s = [byteOf e.question, e.values.target, e.values.outcome])
    ∧ (e.kind = .reveal → buildBody e s = [byteOf e.question, e.values.set])
    ∧ (e.kind = .roll → buildBody e s = [byteOf s.engine.showNo, byteOf s.engine.lastNo])
    ∧ (e.kind = .hello → buildBody e s = [])
    ∧ (∀ k : Team, e.kind = .buzz → s.straps.role = .desk k →
        buildBody e s = [byteOf e.question, byteOf (k.val + 1)])
    ∧ (∀ k : Team, e.kind = .answer → s.straps.role = .desk k →
        buildBody e s = [byteOf e.question, byteOf (k.val + 1)] ++ s.sched.answers.flatMap fun a =>
          [byteOf (a.seat.val * 32 + a.choice.val * 8 + a.e / 65536 % 8), byteOf (a.e / 256), byteOf a.e])
    ∧ (e.kind = .tally → buildBody e s = tallyBody s)

/-- What a receiver reads of an ANSWER body is what its sender put there: the team and every entry with its seat,
choice and e (R38, R45). What a receiver reads of a TALLY body is what its sender holds: the show number, the last
question number, the seat count, the team, and each own seat's total and streak, in a body of the length that R38
gives, the low four bits of an odd last streak byte being 0 (R34, R46). A total is read as a 16-bit two's complement
number and clamped, and a streak in the half byte of its seat (R34). -/
def Obligations.AnswerAndTallyBodiesReadBack : Prop :=
  (∀ (question : Nat) (s : State), (∀ a ∈ s.sched.answers, a.e < 2 ^ 19) →
    (answerBody question s).length = 2 + 3 * s.sched.answers.length
    ∧ answerEntries ((answerBody question s).drop 2)
        = s.sched.answers.map (fun a => { seat := a.seat, choice := a.choice, e := a.e })
    ∧ ∀ k, s.straps.role = .desk k → clampTeam (numAt (answerBody question s) 1) = k)
  ∧ (∀ (body : List Byte) (count i : Nat),
    tallyTotal body i = max (-9999) (min (byteAt body (4 + 2 * i) ++ byteAt body (5 + 2 * i)).toInt 29999)
    ∧ tallyStreak body count i = if i % 2 = 0 then numAt body (4 + 2 * count + i / 2) / 16
        else numAt body (4 + 2 * count + i / 2) % 16)
  ∧ (∀ (s : State) (k : Team), s.straps.role = .desk k → 1 ≤ s.straps.seatCount → s.straps.seatCount ≤ 8 →
    (∀ r ∈ s.score.records, recordInRange r) →
    (tallyBody s).length = 4 + 2 * s.straps.seatCount + (s.straps.seatCount + 1) / 2
    ∧ byteAt (tallyBody s) 0 = byteOf s.engine.showNo ∧ byteAt (tallyBody s) 1 = byteOf s.engine.lastNo
    ∧ (s.engine.showNo ≤ 255 → numAt (tallyBody s) 0 = s.engine.showNo)
    ∧ (s.engine.lastNo ≤ 255 → numAt (tallyBody s) 1 = s.engine.lastNo)
    ∧ numAt (tallyBody s) 3 = s.straps.seatCount ∧ clampTeam (numAt (tallyBody s) 2) = k
    ∧ (s.straps.seatCount % 2 = 1 →
        numAt (tallyBody s) (3 + 2 * s.straps.seatCount + (s.straps.seatCount + 1) / 2) % 16 = 0)
    ∧ ∀ seat : Seat, seat.val < s.straps.seatCount →
        tallyTotal (tallyBody s) seat.val = ((recordOf s s.straps.station seat).map (·.total)).getD 0
        ∧ tallyStreak (tallyBody s) s.straps.seatCount seat.val
            = ((recordOf s s.straps.station seat).map (·.streak)).getD 0)

/-! ### The theatre line -/

/-- IDLE (R4, R6, R173) begins a stretch, and a receiver that waited for it hunts; that one in SYN-1 stays there is the
model's own choice (log entry 5). QUIET_START ends DEFER, and the entry that is then lowest starts with the body built
at that instant (R10, R43, R44). LONG_IDLE is reported once in a stretch (R4), and an OFF station counts it: the 32nd
since entering OFF brings it back to ACTIVE with count 0 (R72). -/
def Obligations.IdleLineIsMeasuredAndUsed : Prop :=
  ((∀ s : State, s.held = false → s.line.level = .unsettled ∨ s.line.level = .pulse → s.line.fault = false →
    s.line.rx = .waitIdle ∨ s.line.rx = .hunt ∨ s.line.rx = .syn1 →
    s.line.tx = .silent ∨ s.line.tx = .ready ∨ s.line.tx = .defer →
    exec .idle s = .next (settle { s with
      line := { s.line with
        level := .idle, idleSince := some s.clock.now, disturbed := false
        rx := if s.line.rx = .waitIdle then .hunt else s.line.rx }
      roster := { s.roster with watchFired := false } }))
  ∧ (∀ (s : State) (e : TxEntry), s.held = false → s.line.tx = .defer → s.store.health = .quiet →
    lineIdle s = true → maySend s = true → offered s = some e →
    ∃ t, exec .quietStart s = .next t ∧ changesOnly [.line, .sched, .link] s t ∧ frameStarts e s t))
  ∧ (∀ s : State, s.held = false → s.line.level = .idle →
    (s.store.health ≠ .off →
      exec .longIdle s = .next (settle { s with line := { s.line with level := .longIdle } }))
    ∧ (s.store.health = .off → s.store.longIdles + 1 < 32 →
      exec .longIdle s = .next (settle { s with
        line := { s.line with level := .longIdle }
        store := { s.store with longIdles := s.store.longIdles + 1 } }))
    ∧ (s.store.health = .off → 32 ≤ s.store.longIdles + 1 →
      exec .longIdle s = .next (settle (raise .health { s with
        line := { s.line with level := .longIdle }
        store := { s.store with longIdles := 0, count := 0, health := .active } }))))

/-- START_EDGE_SEEN (R9, R10): a station with an entry ready joins a fresh edge, but not from QUIET and not while it
follows a frame, a window or a tail; any other stands by, and its entry waits for the next IDLE. The receiver of one
that has an entry ready and does not begin follows the frame, from WAIT-IDLE by way of HUNT. That a command's operand
says whether the edge is fresh is log entry 12, that a READY station joins from SYN-1 log entry 5, that a receiver
also follows from a fresh edge that is not joined, and stays in WAIT-IDLE where no entry is ready, log entry 34, and
that every edge reported is taken as one that opens a frame log entry 35: the model's own choices. MISSING_START_BIT
ends a frame that is followed, of known extent or not, with a fault veto that is driven where R15 permits (R8). -/
def Obligations.StartBitsSeenAndMissing : Prop :=
  (∀ (s : State) (fresh : Bool), s.held = false → s.line.level ≠ .stuck →
    (¬(fresh = true ∧ s.line.tx = .ready ∧ s.store.health ≠ .quiet ∧ maySend s = true
        ∧ (s.line.rx = .waitIdle ∨ s.line.rx = .hunt ∨ s.line.rx = .syn1) ∧ (offered s).isSome = true) →
      exec (.startEdgeSeen fresh) s
        = .next (settle { s with line := { s.line with
            level := .unsettled, idleSince := none
            rx := if (s.line.tx = .ready ∨ s.line.tx = .defer) ∧ s.line.rx = .waitIdle then .hunt else s.line.rx } }))
    ∧ (∀ e, fresh = true → s.line.tx = .ready → s.store.health ≠ .quiet → maySend s = true →
        s.line.rx = .waitIdle ∨ s.line.rx = .hunt ∨ s.line.rx = .syn1 → offered s = some e →
        ∃ t, exec (.startEdgeSeen fresh) s = .next t ∧ changesOnly [.line, .sched, .link] s t ∧ frameStarts e s t))
  ∧ (∀ (s : State) (f : Partial), s.held = false → s.line.rx = .frame f ∨ s.line.rx = .adriftExtent f →
    exec .missingStartBit s = .next (settle { s with line := { s.line with
      rx := .window { frame := f, decision := .faultVeto, driven := mayVeto s, held := none } } }))

/-- A byte travels as a dominant start bit, its bits most significant first with 0 dominant, and a recessive stop bit,
so that of two bytes the lower is the first to put dominant on the line; a receiver reads the eight bits between, and a
framing fault of a dominant stop bit (R2). CHARACTER_COMPLETE (R6, R7, R11, R59, R67): the hunt for two clean SYNs, the
characters of a frame to its extent, and the characters of the own frame as they go out. In any other state a character
leaves the receiver. -/
def Obligations.CharacterMovesReceiverAndSender : Prop :=
  (∀ b : Byte, (lineChar b).getLsbD 9 = false ∧ (∀ i < 8, (lineChar b).getLsbD (i + 1) = b.getLsbD i)
    ∧ (lineChar b).getLsbD 0 = true)
  ∧ (∀ c : LineChar, (∀ i < 8, (lineByte c).getLsbD i = c.getLsbD (i + 1))
    ∧ (lineFraming c = true ↔ c.getLsbD 0 = false))
  ∧ (∀ a b : Byte, a < b → ∃ i < 10, (lineChar a).getLsbD i = false ∧ (lineChar b).getLsbD i = true
    ∧ ∀ j, i < j → (lineChar a).getLsbD j = (lineChar b).getLsbD j)
  ∧ ∀ (s : State) (char : Byte) (framing : Bool), s.held = false → s.line.level ≠ .stuck →
    ∃ t, exec (.characterComplete char framing) s = .next t ∧ changesOnly [.line, .store, .link] s t
      ∧ (s.line.rx = .hunt → char = 0xD2 → framing = false → t.line.rx = .syn1 ∧ t.store = s.store)
      ∧ (s.line.rx = .hunt → ¬(char = 0xD2 ∧ framing = false) → t.line.rx = .waitIdle ∧ t.store = s.store)
      ∧ (s.line.rx = .syn1 → char = 0xD2 → framing = false →
          t.line.rx = .frame { chars := [], faults := [] } ∧ t.store = s.store)
      ∧ (s.line.rx = .syn1 → ¬(char = 0xD2 ∧ framing = false) →
          t.line.rx = .adriftExtent { chars := [], faults := [{ cause := .syn, position := 0 }] }
            ∧ t.store = s.store)
      ∧ (∀ f, s.line.rx = .frame f →
          let g : Partial := { chars := f.chars ++ [char], faults := f.faults ++ faultsAt (f.chars ++ [char]) framing }
          if g.chars.length = 6 ∧ (framing = true ∨ 26 < numAt g.chars 5) then
            t.line.rx = .adriftExtent g ∧ t.store = s.store
          else if 6 < g.chars.length ∧ g.chars.length = 8 + numAt g.chars 5 then
            t.line.rx = .window { frame := g, decision := decideVeto g s, driven := mayVeto s, held := none }
            ∧ t.store = { s.store with
                busyRun := if decideVeto g s = .busyVeto ∧ mayVeto s = true then s.store.busyRun + 1
                  else s.store.busyRun }
          else t.line.rx = .frame g ∧ t.store = s.store)
      ∧ (s.line.rx = .waitIdle ∨ (∃ f, s.line.rx = .adriftExtent f) ∨ (∃ w, s.line.rx = .window w)
          ∨ (∃ x, s.line.rx = .tail x) → t.line.rx = s.line.rx ∧ t.store = s.store)
      ∧ (s.line.tx = .arbitrate ∨ s.line.tx = .send →
          t.line.sent = s.line.sent + 1
          ∧ t.line.tx = if s.line.frame.length ≤ s.line.sent + 1 then .awaitVerdict
              else if 6 ≤ s.line.sent + 1 then .send else .arbitrate)

/-- The tests made at a character are those of R29's table, each with its cause, at that character's position. The
faults of a frame are handed in ascending position, and at one position in the order FRAMING, KIND, LENGTH, SHAPE
(R29). The veto decision at the end of the check is that of R59's table. The health state of a count is that of R70's
table; who may veto, and who may send, is that of R15 and of R9. The kind byte names the kind whose code it is, once it
is read (R27). -/
def Obligations.ShapeTestsAndVetoDecisionFollowTheirTables : Prop :=
  (∀ (chars : List Byte) (b : Byte) (k : Kind), (kindOfCode b = some k ↔ kindCode k = b)
    ∧ (kindRead chars = some k ↔ 4 < chars.length ∧ kindCode k = byteAt chars 4))
  ∧ (∀ (chars : List Byte) (framing : Bool),
    let p := chars.length - 1
    let named := kindOfCode (byteAt chars 4)
    let b := numAt chars 5
    let found := fun c => ({ cause := c, position := p } : FaultMark) ∈ faultsAt chars framing
    (∀ m ∈ faultsAt chars framing, m.position = p)
    ∧ (found .framing ↔ framing = true)
    ∧ (found .kind ↔ p = 4 ∧ named = none)
    ∧ (found .length ↔ p = 5 ∧ 26 < b)
    ∧ (found .shape ↔
        (p = 4 ∧ ∃ k, named = some k ∧ keyClass (keyOfBytes chars) ≠ kindClass k)
        ∨ (p = 5 ∧ b ≤ 26 ∧ ∃ k, named = some k ∧ b ∉ kindLengths k)
        ∨ (p = 9 ∧ named = some .tally ∧ b ∈ kindLengths .tally
            ∧ (numAt chars 9 = 0 ∨ 8 < numAt chars 9 ∨ b ≠ tallyLength (numAt chars 9))))
    ∧ (found .check ↔ 5 < p ∧ chars.length = 8 + b ∧ bytes2 (crc (chars.take (6 + b))) ≠ chars.drop (6 + b))
    ∧ ¬found .syn ∧ ¬found .disturbed ∧ ¬found .stuck ∧ ¬found .twin)
  ∧ (∀ (f : Partial) (s : State),
    (f.faults ≠ [] → decideVeto f s = .faultVeto)
    ∧ (f.faults = [] → s.store.queue.length < 4 → decideVeto f s = .noVeto)
    ∧ (f.faults = [] → 4 ≤ s.store.queue.length → s.store.busyRun < 3 → decideVeto f s = .busyVeto)
    ∧ (f.faults = [] → 4 ≤ s.store.queue.length → 3 ≤ s.store.busyRun → decideVeto f s = .letPass))
  ∧ (∀ chars : List (Byte × Bool),
    let read := chars.foldl (fun f c => readChar f c.1 c.2) { chars := [], faults := [] }
    let place := fun (c : Cause) => [Cause.framing, .kind, .length, .shape].findIdx fun x => decide (x = c)
    read.chars = chars.map (·.1)
    ∧ read.faults.Pairwise fun a b => a.position < b.position
        ∨ (a.position = b.position ∧ a.cause ≠ b.cause
          ∧ (a.cause ≠ .check → b.cause ≠ .check → place a.cause < place b.cause)))
  ∧ (∀ count : Nat, (count ≤ 95 → healthOf count = .active) ∧ (96 ≤ count → count ≤ 127 → healthOf count = .warning)
    ∧ (128 ≤ count → healthOf count = .quiet))
  ∧ ∀ s : State,
    (mayVeto s = true ↔ (s.store.health = .active ∨ s.store.health = .warning) ∧ s.store.twin = false)
    ∧ (maySend s = true ↔ s.store.health ≠ .off ∧ s.store.twin = false)

/-- LOST ends the own frame in ARBITRATE (R11, R48, R56): the entry stays with its retry count, or leaves where a purge
has condemned it; no count and no record of the receive store moves. DISTURBED abandons the own frame (R12, R49, R50,
R56, R69 to R71, R77): 8 on the health count, which may bring OFF, one retry or the drop of the entry, which leaves
uncounted where it was condemned, and the record of the position and of the key as read back. That the record's key
holds whole characters only is the model's own choice (log entry 11). -/
def Obligations.LostAndDisturbedFramesKeepTheirEntry : Prop :=
  (∀ (s : State) (e : TxEntry), s.held = false → s.line.tx = .arbitrate → inFlight? s = some e →
    (e.discard = false →
      exec .lost s = .next (settle { s with
        sched := {
          queue := s.sched.queue.map fun x => if x.inFlight then { x with inFlight := false } else x
          answers := if e.kind = .answer then s.sched.answers.map fun a => { a with changed := false }
            else s.sched.answers }
        line := { s.line with frame := [], sent := 0, tx := .silent } }))
    ∧ (e.discard = true →
      exec .lost s = .next (settle { s with
        sched := { s.sched with queue := s.sched.queue.filter fun x => !x.inFlight }
        line := { s.line with frame := [], sent := 0, tx := .silent } })))
  ∧ (∀ (s : State) (e : TxEntry), s.held = false → s.line.tx = .arbitrate ∨ s.line.tx = .send →
    inFlight? s = some e →
    ∃ u, exec .disturbed s = .next (settle u) ∧ changesOnly [.line, .sched, .store, .link] s u
      ∧ u.line = { chargedLine 8 s.store s.line with frame := [], sent := 0, tx := .silent, disturbed := true }
      ∧ u.store = { chargedStore 8 s.store with
          lastFault := { cause := some .disturbed, position := s.line.sent - 2
                         key := keyOfBytes (((s.line.frame.take s.line.sent).drop 2).take 4) } }
      ∧ u.sched = failedSched e s.sched ∧ failedLink e s u)

/-- A well-formed frame of another station that passes its window recessive is taken, at VERDICT with the reading of
that instant or at HELD_VERDICT_ACTED with the reading kept (R16, R17, R60 to R65, R68, R69), a busy veto that the
station may not drive having no effect. One that a half of its window vetoes, if by this station's own drive alone, is
discarded (R1, R15, R16, R58). VERDICT on a line still dominant holds the verdict with its reading, and nothing else
moves (R17, R60). That VERDICT's operands are what the rest of the line did, the own drive being added, is the model's
own choice (log entry 13). -/
def Obligations.FrameIsTakenOrItsVerdictHeld : Prop :=
  (∀ (s : State) (w : Window) (k : Kind) (c : Instr) (stamp : Stamp), actsOn w .taken stamp c s → readsClean w k →
    s.line.tx ≠ .awaitVerdict → s.store.queue.length < 4 →
    keyStation (keyOfBytes w.frame.chars) ≠ s.straps.station →
    ∃ u, exec c s = .next (settle u) ∧ changesOnly [.line, .store, .link] s u
      ∧ u.store = { fallenStore s.store with queue := s.store.queue ++ [placeOf w k stamp], busyRun := 0 }
      ∧ u.line = takenLine k (maySend s) s
      ∧ onlyRaises [(decide (s.store.health ≠ u.store.health), .health)] s u)
  ∧ (∀ (s : State) (w : Window) (v : Verdict) (c : Instr) (stamp : Stamp), actsOn w v stamp c s → v ≠ .taken →
    w.frame.faults = [] → s.line.tx ≠ .awaitVerdict →
    exec c s = .next (settle { s with line := { s.line with rx := .waitIdle, disturbed := false } }))
  ∧ (∀ (s : State) (w : Window) (faultHalf busyHalf : Bool), s.held = false → s.line.rx = .window w → w.held = none →
    exec (.verdict faultHalf busyHalf true) s = .next (settle { s with line := { s.line with
      rx := .window { w with held := some {
        verdict := verdictOf w faultHalf busyHalf, stamp := s.clock.now } } } }))

/-- A taken frame that finds no place is dropped and adrift set, whatever its kind: a ROLL or HELLO has its tail and
the own mark all the same, with no place claimed (R18, R64, R73, R171). The faults of a frame of another station count
1, which may bring OFF, and are recorded at its verdict, whatever the verdict, unless the own transmitter was disturbed
in it; one that the line takes and the station could not read sets adrift, and is followed into its tail without a mark
(R18, R61, R68 to R71, R77). That one cut short without a fault counts nothing is log entry 6, the tail of a faulty one
log entry 14, and that adrift set where it stood also returns a catch-up to NONE log entry 8: the model's own choices.
-/
def Obligations.UnplacedAndUnreadFramesSetAdrift : Prop :=
  (∀ (s : State) (w : Window) (k : Kind) (c : Instr) (stamp : Stamp), actsOn w .taken stamp c s → readsClean w k →
    s.line.tx ≠ .awaitVerdict → 4 ≤ s.store.queue.length →
    keyStation (keyOfBytes w.frame.chars) ≠ s.straps.station →
    ∃ u, exec c s = .next (settle u) ∧ changesOnly [.line, .store, .roster, .link] s u
      ∧ u.store = { fallenStore s.store with adrift := true } ∧ u.line = takenLine k (maySend s) s
      ∧ catchUpEnded s u
      ∧ onlyRaises ((decide (s.store.health ≠ u.store.health), .health) :: adriftNotices s) s u)
  ∧ ∀ (s : State) (w : Window) (v : Verdict) (c : Instr) (stamp : Stamp), actsOn w v stamp c s →
    w.decision = .faultVeto → s.line.tx ≠ .awaitVerdict →
    let counts := w.frame.faults ≠ [] ∧ s.line.disturbed = false
    let store := if counts then recordedStore w (chargedStore 1 s.store) else s.store
    let line := if counts then chargedLine 1 s.store s.line else s.line
    (v ≠ .taken → ∃ u, exec c s = .next (settle u) ∧ changesOnly [.line, .store, .link] s u
      ∧ u.store = store ∧ u.line = { line with rx := .waitIdle, disturbed := false }
      ∧ onlyRaises [(decide (s.store.health ≠ u.store.health), .health)] s u)
    ∧ (v = .taken → ∃ u, exec c s = .next (settle u) ∧ changesOnly [.line, .store, .roster, .link] s u
      ∧ u.store = { store with adrift := true }
      ∧ u.line = { line with
          rx := if (kindRead w.frame.chars).any Kind.hasTail then .tail { marks := [], mine := none, before := none }
            else .waitIdle
          disturbed := false }
      ∧ catchUpEnded s u
      ∧ onlyRaises ((decide (s.store.health ≠ u.store.health), .health) :: adriftNotices s) s u)

/-- The verdict on the own frame in flight (R16, R18, R47, R49, R50, R56, R62, R69 to R71), the own veto counting in it
like any other's (R15, R62). DELIVERED takes the entry out and the frame in, or drops it with adrift set where no place
is free (R64). FAULT-VETOED adds 8, which may bring OFF, and counts a retry; BUSY-VETOED counts a retry and adds
nothing; the sixteenth drops the entry, and a condemned one leaves uncounted. Faults found in the own frame are
recorded, not counted; one delivered all the same is not taken, and sets adrift (R61, R68, R77). That adrift set where
it stood also returns a catch-up to NONE is log entry 8, the tail of a faulty ROLL or HELLO log entry 14, and that
VERDICT's operands leave the own drive out log entry 13: the model's own choices. -/
def Obligations.VerdictSettlesTheOwnFrame : Prop :=
  ∀ (s : State) (w : Window) (v : Verdict) (c : Instr) (stamp : Stamp) (e : TxEntry), actsOn w v stamp c s →
    s.line.tx = .awaitVerdict → inFlight? s = some e → s.line.disturbed = false →
    let freed : LineIf := { s.line with frame := [], sent := 0, tx := .silent, rx := .waitIdle }
    (∀ k, v = .taken → readsClean w k → ∃ u, exec c s = .next (settle u)
      ∧ changesOnly [.line, .sched, .store, .roster, .link] s u
      ∧ u.line = { takenLine k (maySend s) s with
          frame := [], sent := 0, tx := if k.hasTail && maySend s then .mark else .silent }
      ∧ deliveredSched e s u ∧ u.store = takenStore w k stamp s.store
      ∧ (s.store.queue.length < 4 → u.roster = s.roster
        ∧ onlyRaises [(decide (s.store.health ≠ u.store.health), .health)] s u)
      ∧ (4 ≤ s.store.queue.length → catchUpEnded s u
        ∧ onlyRaises ((decide (s.store.health ≠ u.store.health), .health) :: adriftNotices s) s u))
    ∧ (v = .taken → w.decision = .faultVeto → ∃ u, exec c s = .next (settle u)
      ∧ changesOnly [.line, .sched, .store, .roster, .link] s u
      ∧ u.line = { freed with
          rx := if (kindRead w.frame.chars).any Kind.hasTail then .tail { marks := [], mine := none, before := none }
            else .waitIdle }
      ∧ deliveredSched e s u ∧ u.store = { recordedStore w s.store with adrift := true }
      ∧ catchUpEnded s u ∧ onlyRaises (adriftNotices s) s u)
    ∧ (v ≠ .taken → ∃ u, exec c s = .next (settle u) ∧ changesOnly [.line, .sched, .store, .link] s u
      ∧ u.line = freed ∧ u.sched = failedSched e s.sched ∧ failedLink e s u
      ∧ u.store = recordedStore w (if v = .faultVetoed then chargedStore 8 s.store else s.store))

/-- A taken frame that bears the own station number, and is not the own delivered frame, sets the twin fault: the
transmitter falls SILENT, the record and the FAULT reason say TWIN, and the frame is stored, or dropped, all the same
(R64, R69, R75, R76). The twin fault stays set until POWER_UP or RESET_RELEASE, whatever else the part is given (R76).
That adrift set where it stood also returns a catch-up to NONE is log entry 8, the model's own choice. -/
def Obligations.ForeignFrameWithOwnNumberSetsTheTwinFault : Prop :=
  (∀ (s : State) (w : Window) (k : Kind) (c : Instr) (stamp : Stamp), actsOn w .taken stamp c s → readsClean w k →
    s.line.tx ≠ .awaitVerdict → keyStation (keyOfBytes w.frame.chars) = s.straps.station →
    ∃ u, exec c s = .next (settle u) ∧ changesOnly [.line, .store, .roster, .link] s u
      ∧ u.store = { takenStore w k stamp s.store with
          twin := true, lastFault := { cause := some .twin, position := 3, key := keyOfBytes w.frame.chars } }
      ∧ u.line = { takenLine k false s with tx := .silent }
      ∧ (s.store.queue.length < 4 → u.roster = s.roster ∧ u.link = { s.link with
          faultReason := some .twin
          raised := s.link.raised ||| pendingOf [(true, .fault), (decide (s.store.health ≠ u.store.health), .health)] })
      ∧ (4 ≤ s.store.queue.length → catchUpEnded s u ∧ u.link = { s.link with
          faultReason := some .twin
          raised := s.link.raised ||| pendingOf ((true, .fault) :: (decide (s.store.health ≠ u.store.health), .health)
            :: adriftNotices s) }))
  ∧ (∀ (c : Instr) (s t : State), s.store.twin = true → exec c s = .next t →
    (∀ p pins, c ≠ .powerUp p ∧ c ≠ .resetRelease pins) → t.store.twin = true)

/-- TAIL_SLOT and TAIL_END_EMPTY_SLOT (R19, R20, R65): a clean character is a mark, one with a framing fault is none
and, the model's own choice (log entry 14), no repetition of the one before, nor the next of it; the own mark is kept
only where it lost in the station bits; the tail ends with its marks at an empty slot and at the 32nd mark, and cut,
before the repeated pair, at a repeated character. -/
def Obligations.TailRecordsMarksAndFillsItsPlace : Prop :=
  ∀ (s : State) (t : Tail), s.held = false → s.line.rx = .tail t →
    let filled := fun (marks : List Byte) (cut : Bool) => { s.store with queue := s.store.queue.map fun f =>
      if f.claimed then { f with marks := marks, tailCut := cut, claimed := false } else f }
    let free := if s.line.tx = .mark then TxState.silent else s.line.tx
    let mine := fun (char : Byte) => t.mine.bind fun m =>
      if char < m ∧ upperStation char ≠ upperStation m then some m else none
    (∀ char : Byte, t.before ≠ some char → t.marks.length + 1 < 32 →
      exec (.tailSlot char false) s = .next (settle { s with line := { s.line with rx := .tail {
        marks := t.marks ++ [char], before := some char, mine := mine char } } }))
    ∧ (∀ char : Byte, exec (.tailSlot char true) s = .next (settle { s with line := { s.line with rx := .tail {
        marks := t.marks, before := none, mine := mine char } } }))
    ∧ (∀ char : Byte, t.before ≠ some char → 32 ≤ t.marks.length + 1 →
      exec (.tailSlot char false) s = .next (settle { s with
        store := filled (t.marks ++ [char]) false
        line := { s.line with rx := .waitIdle, disturbed := false, tx := free } }))
    ∧ (∀ char : Byte, t.before = some char →
      exec (.tailSlot char false) s = .next (settle { s with
        store := filled t.marks.dropLast true
        line := { s.line with rx := .frame { chars := [], faults := [] }, disturbed := false, tx := free } }))
    ∧ exec .tailEndEmptySlot s = .next (settle { s with
        store := filled t.marks false
        line := { s.line with rx := .waitIdle, disturbed := false, tx := free } })

/-- CLEAR_PULSE abandons whatever is on the line (R22, R48): no fault is reported, no count moves, the own entry stays
with its retry count, and a tail in progress fills its place cut. CLEAR_PULSE_END frees the transmitter (R21);
STUCK_LINE, once in a run that is a recognised pulse, sets the line fault, counts 1, which may bring OFF, and records
and raises STUCK; LINE_FAULT_CLEAR clears the condition (R23, R69 to R71, R77). -/
def Obligations.ClearPulseAndStuckLine : Prop :=
  (∀ s : State, s.held = false → s.line.level ≠ .stuck →
    ∃ u, exec .clearPulse s = .next (settle u) ∧ changesOnly [.line, .sched, .store] s u
      ∧ u.line = { s.line with
          level := .pulse, idleSince := none, rx := .waitIdle, disturbed := false
          tx := if s.line.tx = .clear then .clear else .silent
          frame := if (inFlight? s).isSome then [] else s.line.frame
          sent := if (inFlight? s).isSome then 0 else s.line.sent }
      ∧ (inFlight? s = none → u.sched = s.sched)
      ∧ (∀ e, inFlight? s = some e → e.discard = false → u.sched = {
          queue := s.sched.queue.map fun x => if x.inFlight then { x with inFlight := false } else x
          answers := if e.kind = .answer then s.sched.answers.map fun a => { a with changed := false }
            else s.sched.answers })
      ∧ (∀ e, inFlight? s = some e → e.discard = true →
          u.sched = { s.sched with queue := s.sched.queue.filter fun x => !x.inFlight })
      ∧ ((∀ t, s.line.rx ≠ .tail t) → u.store = s.store)
      ∧ (∀ t, s.line.rx = .tail t → u.store = { s.store with queue := s.store.queue.map fun f =>
          if f.claimed then { f with marks := t.marks, tailCut := true, claimed := false } else f }))
  ∧ ((∀ s : State, s.held = false → s.line.tx = .clear →
    exec .clearPulseEnd s = .next (settle { s with line := { s.line with tx := .silent } }))
  ∧ (∀ s : State, s.held = false → s.line.level = .pulse →
    ∃ u, exec .stuckLine s = .next (settle u) ∧ changesOnly [.line, .store, .link] s u
      ∧ u.line = { chargedLine 1 s.store s.line with level := .stuck, fault := true }
      ∧ u.store = { chargedStore 1 s.store with
          lastFault := { cause := some .stuck, position := 0, key := 0 } }
      ∧ u.link = { s.link with
          faultReason := some .stuck
          raised := s.link.raised
            ||| pendingOf [(decide (s.store.health ≠ u.store.health), .health), (true, .fault)] })
  ∧ (∀ s : State, s.held = false → s.line.fault = true →
    exec .lineFaultClear s = .next (settle { s with line := { s.line with level := .unsettled, fault := false } })))

/-! ### Seat panel and round clock -/

/-- KEY_SCAN (R85 to R87, R93): each key of a fitted seat that this clock value has not read yet counts its opposite
readings and changes at the third; the accepted presses join the latch list with the scan's stamp, in key order among
those of one scan, and of more than four the last are lost with a refusal flash; an unfitted seat is not read. The
model's own choices: KEY_SCAN itself accepts presses and releases, and the presses of its clock value that were reported
one by one are presses of its scan, merged and counted with its own, so that the last in key order are those lost (log
entry 10); a second scan at one clock value falls at the next value, and a scan at a presenter, which reads no seat, is
the scan of its clock value all the same (log entry 9). -/
def Obligations.KeyScanDebouncesEveryFittedKey : Prop :=
  ∀ (s : State) (readings : BitVec 40), s.held = false →
    (s.clock.scanned = BitVec.allOnes 40 → exec (.keyScan readings) s
      = exec (.keyScan readings) { s with clock := { s.clock with now := s.clock.now + 1, scanned := 0 } })
    ∧ (s.clock.scanned ≠ BitVec.allOnes 40 →
      let place := fun (seat : Seat) (key : PadKey) => 5 * seat.val + (keyPlace key).val
      let unread := fun (seat : Seat) (key : PadKey) => !s.clock.scanned.getLsbD (place seat key)
      let down := fun (seat : Seat) (key : PadKey) => readings.getLsbD (place seat key)
      let stamped := fun (key : PadKey) => ({ key := key, stamp := s.clock.now } : Press)
      let keys := [PadKey.buzz, .choice 0, .choice 1, .choice 2, .choice 3]
      keys.map (fun key => (keyPlace key).val) = [0, 1, 2, 3, 4]
      ∧ ∃ u, exec (.keyScan readings) s = .next (settle u) ∧ changesOnly [.panel, .clock] s u
        ∧ u.clock = { s.clock with scanned := BitVec.allOnes 40 } ∧ u.panel.reveal = s.panel.reveal
        ∧ ∀ seat : Seat,
          (s.straps.seatCount ≤ seat.val → u.panel.seats[seat] = s.panel.seats[seat])
          ∧ (seat.val < s.straps.seatCount →
            (∀ key : PadKey, keyState u seat key =
              if unread seat key = false then keyState s seat key
              else if down seat key = (keyState s seat key).pressed then { keyState s seat key with run := 0 }
              else if (keyState s seat key).run < 2 then
                { keyState s seat key with run := (keyState s seat key).run + 1 }
              else { pressed := !(keyState s seat key).pressed, run := 0 })
            ∧ u.panel.seats[seat].buzzed = s.panel.seats[seat].buzzed
            ∧ u.panel.seats[seat].chosen = s.panel.seats[seat].chosen
            ∧ u.panel.seats[seat].correct = s.panel.seats[seat].correct
            ∧ ∀ (older : List Press) (mine : PadKey → Bool),
              s.panel.seats[seat].latch = older ++ (keys.filter mine).map stamped →
              (∀ p ∈ older, p.stamp ≠ s.clock.now) → s.panel.seats[seat].latch.length ≤ 4 →
              let accepted := fun key => unread seat key && down seat key && !(keyState s seat key).pressed
                && decide (2 ≤ (keyState s seat key).run)
              (∀ key, accepted key = true → mine key = false) →
              u.panel.seats[seat].latch
                = (older ++ (keys.filter fun key => mine key || accepted key).map stamped).take 4
              ∧ u.panel.seats[seat].flash =
                if 4 < s.panel.seats[seat].latch.length + (keys.filter accepted).length then some (s.clock.now + 500)
                else s.panel.seats[seat].flash))

/-- ACCEPTED_PRESS and ACCEPTED_RELEASE are the third opposite reading of one key (R86, R87, R93; log entry 10): a press
joins the latch list at the back, in key order among the presses of its scan, and of more than four the last is lost
with a refusal flash. Of a key already read at this clock value the reading falls at the next value (log entry 9).
REFUSAL_FLASH_END ends the flash whose end instant the clock has reached (R93). -/
def Obligations.KeysAreAcceptedAndFlashesEnd : Prop :=
  (∀ (s : State) (seat : Seat) (key : PadKey), s.held = false → seat.val < s.straps.seatCount →
    let place := 5 * seat.val + (keyPlace key).val
    let held := s.panel.seats[seat]
    let stamped := fun (key : PadKey) => ({ key := key, stamp := s.clock.now } : Press)
    let keys := [PadKey.buzz, .choice 0, .choice 1, .choice 2, .choice 3]
    let clock := { s.clock with scanned := s.clock.scanned ||| BitVec.twoPow 40 place }
    let later := { s with clock := { s.clock with now := s.clock.now + 1, scanned := 0 } }
    (s.clock.scanned.getLsbD place = true →
      (keyState s seat key = { pressed := false, run := 2 } →
        exec (.acceptedPress seat key) s = exec (.acceptedPress seat key) later)
      ∧ (keyState s seat key = { pressed := true, run := 2 } →
        exec (.acceptedRelease seat key) s = exec (.acceptedRelease seat key) later))
    ∧ (s.clock.scanned.getLsbD place = false →
      (keyState s seat key = { pressed := false, run := 2 } → ∀ (older : List Press) (mine : PadKey → Bool),
        s.panel.seats[seat].latch = older ++ (keys.filter mine).map stamped →
        (∀ p ∈ older, p.stamp ≠ s.clock.now) → mine key = false →
        exec (.acceptedPress seat key) s = .next (settle { s with
          clock := clock
          panel := { s.panel with seats := putAt s.panel.seats seat { held with
            keys := putAt held.keys (keyPlace key) { pressed := true, run := 0 }
            latch := (older ++ (keys.filter fun k => mine k || decide (k = key)).map stamped).take 4
            flash := if held.latch.length < 4 then held.flash else some (s.clock.now + 500) } } }))
      ∧ (keyState s seat key = { pressed := true, run := 2 } →
        exec (.acceptedRelease seat key) s = .next (settle { s with
          clock := clock
          panel := { s.panel with seats := putAt s.panel.seats seat { held with
            keys := putAt held.keys (keyPlace key) { pressed := false, run := 0 } } } }))))
  ∧ (∀ (s : State) (seat : Seat) (t : Stamp), s.held = false → s.panel.seats[seat].flash = some t →
    (s.clock.now - t).toNat < 2 ^ 31 →
    exec (.refusalFlashEnd seat) s = .next (settle { s with panel := { s.panel with
      seats := putAt s.panel.seats seat { s.panel.seats[seat] with flash := none } } }))

/-- WARN sets warned at the warn instant (R82), EXPIRY_DUE sets expiry due at the expiry instant (R83), and
EXPIRY_EVENT, when the round engine reaches it, makes round and timer EXPIRED and raises ROUND, nothing else moving
(R83, R100, R112). -/
def Obligations.WarnAndExpiryFallAtTheirInstants : Prop :=
  ∀ s : State, s.held = false → s.clock.timer.cond = .running →
    (∀ p, s.clock.timer.warned = false → s.clock.timer.warnPoint = some p →
      (s.clock.now - (s.clock.timer.origin + s.clock.timer.offset + BitVec.ofNat 32 p)).toNat < 2 ^ 31 →
      exec .warn s
        = .next (settle { s with clock := { s.clock with timer := { s.clock.timer with warned := true } } }))
    ∧ (s.clock.timer.due = false →
      (s.clock.now - (s.clock.timer.origin + s.clock.timer.offset + BitVec.ofNat 32 s.clock.timer.limit)).toNat
        < 2 ^ 31 →
      exec .expiryDue s
        = .next (settle { s with clock := { s.clock with timer := { s.clock.timer with due := true } } }))
    ∧ (s.engine.state = .opened → nextWork s = some .expiry →
      exec .expiryEvent s = .next (settle (raise .round { s with
        engine := { s.engine with state := .expired }
        clock := { s.clock with timer := { s.clock.timer with cond := .expired, due := false } } })))

/-- The timer places a stamp as R80's table gives, with the e of the stretch it falls in, and counts down as R84's
table gives. -/
def Obligations.TimerPlacesStampsAndCountsDown : Prop :=
  ∀ (t : Timer) (x now : Stamp),
    let back := fun (a b : Stamp) => (a - b).toNat < 2 ^ 31
    let e := fun (offset : Stamp) => (x - t.origin - offset).toNat
    let given := fun (offset : Stamp) => if t.limit ≤ e offset then Placement.late else .within (e offset)
    let current := back x t.start ∧ ∀ h, t.haltStamp = some h → t.cond = .halted ∨ t.cond = .stopped → ¬back x h
    let previous := fun (p : Stretch) => back x p.start ∧ ¬back x p.stop
    (t.cond = .clear → t.place x = none ∧ t.countdown now = none)
    ∧ (t.cond ≠ .clear → ¬back x t.origin → t.place x = some .before)
    ∧ (t.cond ≠ .clear → back x t.origin → current → t.place x = some (given t.offset))
    ∧ (∀ p, t.cond ≠ .clear → back x t.origin → ¬current → t.previous = some p → previous p →
        t.place x = some (given p.offset))
    ∧ (t.cond ≠ .clear → back x t.origin → ¬current → (∀ p, t.previous = some p → ¬previous p) →
        t.place x = some .halted)
    ∧ (t.cond = .expired ∨ (t.cond = .running ∧ t.due = true) → t.countdown now = some 0)
    ∧ (t.cond = .running → t.due = false →
        t.countdown now = some ((t.limit - (now - t.origin - t.offset).toNat + 999) / 1000))
    ∧ (∀ h, t.cond = .halted ∨ t.cond = .stopped → t.haltStamp = some h →
        t.countdown now = some ((t.limit - (h - t.origin - t.offset).toNat + 999) / 1000))

/-- A running part drives the line for its pulse, in the halves of R15's table while it may, and with the ten levels of
the next character of its frame or its mark (R2); TXD carries the record being sent, character by character (R15, R21,
R182); Tc is that of the strapped speed (R3); the scan drives the selects of the fitted seats, and a seat's five drive
pins as its lamp and its LEDs are lit now (R94, 11.7). The lamps, the LEDs, the desk display and ATTN show the state
(R94 to R97, R188): the patterns' phases, the first row of R95's table that holds, R96's table, R97's fields at a desk,
nothing but dark and blank fields at a presenter's display, and ATTN active while a kind is both pending and enabled.
-/
def Obligations.LampsDisplayAndAttnShowTheState : Prop :=
  (∀ s : State, s.held = false →
    charTime s = (if s.straps.fast = true then 50 else 200)
    ∧ (∀ seat : Seat, (seatSelectUsed s seat = true ↔ seat.val < s.straps.seatCount)
      ∧ seatDrive s seat = (seatLamp s seat).lit s.clock.now
          :: ([0, 1, 2, 3] : List Choice).map fun c => (choiceLed s seat c).lit s.clock.now)
    ∧ (drivesPulse s = true ↔ s.line.tx = .clear)
    ∧ (∀ w, s.line.rx = .window w →
        (drivesFaultHalf s = true ↔ w.driven = true ∧ w.decision = .faultVeto)
        ∧ (drivesBusyHalf s = true ↔ w.driven = true ∧ (w.decision = .faultVeto ∨ w.decision = .busyVeto)))
    ∧ ((∀ w, s.line.rx ≠ .window w) → drivesFaultHalf s = false ∧ drivesBusyHalf s = false)
    ∧ (s.line.tx = .arbitrate ∨ s.line.tx = .send → sendingChar s = s.line.frame[s.line.sent]?)
    ∧ (∀ x, s.line.tx = .mark → s.line.rx = .tail x → sendingChar s = x.mine)
    ∧ (s.line.tx ≠ .arbitrate → s.line.tx ≠ .send → (s.line.tx = .mark → ∀ x, s.line.rx ≠ .tail x) →
        sendingChar s = none)
    ∧ sendingLine s = (sendingChar s).map lineChar
    ∧ (∀ bytes, s.link.tx = .reply bytes ∨ s.link.tx = .notice bytes →
        sendingRecord s = bytes ∧ sendingTxd s = bytes.map uartChar)
    ∧ (s.link.tx = .idle → sendingTxd s = []))
  ∧ (∀ now : Stamp, Pattern.lit now .dark = false ∧ Pattern.lit now .steady = true
    ∧ (Pattern.lit now .slow = true ↔ now.toNat % 1000 < 500) ∧ (Pattern.lit now .fast = true ↔ now.toNat % 250 < 125))
  ∧ (∀ (s : State) (seat : Seat), s.held = false →
    let held := s.panel.seats[seat]
    let named := fun (b : BuzzEntry) => b.station = s.straps.station ∧ b.seat = seat
    let head := ∃ b, s.buzz.queue.head? = some b ∧ named b
    let queued := ∃ b ∈ s.buzz.queue, named b
    let locked := s.engine.state.isOpen = true
      ∧ lockedOut s s.straps.station seat (teamOf (some s.straps.role)) = true
    (s.straps.seatCount ≤ seat.val → seatLamp s seat = .dark ∧ ∀ c : Choice, choiceLed s seat c = .dark)
    ∧ (seat.val < s.straps.seatCount →
      (held.flash.isSome = true → seatLamp s seat = .fast)
      ∧ (held.flash = none → held.correct = true → seatLamp s seat = .steady)
      ∧ (held.flash = none → held.correct = false →
        (head → seatLamp s seat = .steady) ∧ (¬head → queued → seatLamp s seat = .slow)
        ∧ (¬queued → locked → seatLamp s seat = .fast) ∧ (¬queued → ¬locked → seatLamp s seat = .dark))
      ∧ ∀ c : Choice,
        (s.panel.reveal = none →
          choiceLed s seat c = if held.chosen.map (·.choice) = some c then .steady else .dark)
        ∧ ∀ set, s.panel.reveal = some set →
          choiceLed s seat c = if inSet set c = true then .fast
            else if held.chosen.map (·.choice) = some c then .slow else .dark))
  ∧ (∀ s : State, s.held = false →
    (s.straps.role = .presenter → deskDisplay s
      = { total := none, rank := none, countdown := none, uncertain := false, lineFault := false })
    ∧ (∀ k, s.straps.role = .desk k →
      (∀ x, s.score.standings.find? (fun x => decide (x.team = k)) = some x →
        (deskDisplay s).total = some (max (-99999) (min x.total 999999)) ∧ (deskDisplay s).rank = some x.rank)
      ∧ (deskDisplay s).uncertain = s.store.adrift ∧ (deskDisplay s).lineFault = s.line.fault
      ∧ (s.clock.timer.warned = false → (deskDisplay s).countdown = s.clock.timer.countdown s.clock.now)
      ∧ (s.clock.timer.warned = true → (deskDisplay s).countdown
          = if s.clock.now.toNat % 1000 < 500 then s.clock.timer.countdown s.clock.now else none))
    ∧ (attn s = true ↔ ∃ n : Notice, s.link.raised.getLsbD (noticeBit n) = true
        ∧ s.link.mask.getLsbD (noticeBit n) = true))

/-! ### Presses -/

/-- PRESS takes the oldest press, judges it through the gate, and refuses it with the flash where a step fails; the
press leaves its list whatever the judgement (R88, R93, R115, R118, R137). -/
def Obligations.RefusedPressOnlyFlashes : Prop :=
  ∀ (s : State) (seat : Seat) (p : Press), s.held = false → nextWork s = some .press →
    oldestPress s = some (seat, p) →
    (s.engine.state.isOpen = false
      ∨ (∃ q, openQuestionIs s q ∧ q.type = .poll ∧ p.key = .buzz)
      ∨ (∃ q c, openQuestionIs s q ∧ q.type = .buzz ∧ p.key = .choice c)
      ∨ s.clock.timer.place p.stamp = some .before ∨ s.clock.timer.place p.stamp = some .halted
      ∨ s.clock.timer.place p.stamp = some .late
      ∨ (p.key = .buzz ∧ (s.panel.seats[seat].buzzed = true
          ∨ lockedOut s s.straps.station seat (teamOf (some s.straps.role)) = true))
      ∨ (∃ q c, openQuestionIs s q ∧ p.key = .choice c ∧ q.choices ≤ c.val)
      ∨ (∃ q c, openQuestionIs s q ∧ p.key = .choice c ∧ q.mode = .first
          ∧ s.panel.seats[seat].chosen.isSome = true)
      ∨ (∃ q c old, openQuestionIs s q ∧ p.key = .choice c ∧ q.mode = .last
          ∧ s.panel.seats[seat].chosen = some old ∧ old.choice = c)
      ∨ (∃ q c old e, openQuestionIs s q ∧ p.key = .choice c ∧ q.mode = .last
          ∧ s.panel.seats[seat].chosen = some old ∧ s.clock.timer.place p.stamp = some (.within e) ∧ e ≤ old.e)) →
    exec .press s = .next (settle { s with panel := { s.panel with
      seats := putAt s.panel.seats seat { s.panel.seats[seat] with
        latch := s.panel.seats[seat].latch.tail, flash := some (s.clock.now + 500) } } })

/-- PRESS of a buzz key that passes the gate, the buzzed flag and the lockout sets the flag and places a BUZZ entry
with the seat, the e and the current question (R25, R41, R42, R118). PRESS of a choice key that passes the gate and
R137 becomes the seat's chosen answer, and the pending answer list takes it (R51, R52, R90, R138). -/
def Obligations.AcceptedPressesTakeTheirEffect : Prop :=
  (∀ (s : State) (seat : Seat) (p : Press) (q : Question) (e : Nat), s.held = false → nextWork s = some .press →
    oldestPress s = some (seat, p) → p.key = .buzz → openQuestionIs s q → q.type = .buzz →
    s.clock.timer.place p.stamp = some (.within e) → s.panel.seats[seat].buzzed = false →
    lockedOut s s.straps.station seat (teamOf (some s.straps.role)) = false → s.sched.queue.length < 12 →
    exec .press s = .next (settle { s with
      panel := { s.panel with seats := putAt s.panel.seats seat { s.panel.seats[seat] with
        latch := s.panel.seats[seat].latch.tail, buzzed := true } }
      sched := { s.sched with queue := insertByKey {
        kind := .buzz, key := mkKey 3 e s.straps.station seat, question := q.number, values := {}, retry := 0
        discard := false, inFlight := false } s.sched.queue } }))
  ∧ (∀ (s : State) (seat : Seat) (p : Press) (q : Question) (c : Choice) (e : Nat), s.held = false →
    nextWork s = some .press → oldestPress s = some (seat, p) → p.key = .choice c → openQuestionIs s q →
    q.type = .poll → s.clock.timer.place p.stamp = some (.within e) → c.val < q.choices →
    (s.panel.seats[seat].chosen = none
      ∨ ∃ old, s.panel.seats[seat].chosen = some old ∧ q.mode = .last ∧ old.choice ≠ c ∧ old.e < e) →
    exec .press s = .next (settle { s with
      panel := { s.panel with seats := putAt s.panel.seats seat { s.panel.seats[seat] with
        latch := s.panel.seats[seat].latch.tail, chosen := some { choice := c, e := e } } }
      sched := (recordAnswer seat c e q.number s).sched }))

/-- The pending answer list after an accepted choice (R51, R52): the seat's entry is created or replaced in seat
order, marked as changed while an ANSWER is in flight, the other seats' entries stand, and one ANSWER entry stands for
the list with the smallest e as its order: the one that stood, its question and count its own, or a new one with the
current question and count 0. -/
def Obligations.PendingAnswersStandAsOneEntry : Prop :=
  ∀ (s : State) (seat : Seat) (c : Choice) (e question : Nat), s.sched.queue.length < 12 →
    s.sched.answers.Pairwise (fun a b => a.seat < b.seat) →
    (s.sched.queue.filter TxEntry.isLiveAnswer).length ≤ 1 →
    let t := recordAnswer seat c e question s
    (answerInFlight s = true ↔ ∃ x ∈ s.sched.queue, x.inFlight = true ∧ x.kind = .answer)
    ∧ (∀ x : TxEntry, x.isLiveAnswer = true ↔ x.kind = .answer ∧ x.discard = false)
    ∧ changesOnly [.sched] s t
    ∧ t.sched.answers.Pairwise (fun a b => a.seat < b.seat)
    ∧ (∀ a, a ∈ t.sched.answers ↔
        (a = { seat := seat, choice := c, e := e, changed := answerInFlight s }
          ∨ (a ∈ s.sched.answers ∧ a.seat ≠ seat)))
    ∧ (∃ x, t.sched.queue.filter TxEntry.isLiveAnswer = [x]
        ∧ (∃ least ∈ t.sched.answers, x.key = mkKey 4 least.e s.straps.station 0
          ∧ ∀ a ∈ t.sched.answers, least.e ≤ a.e)
        ∧ (∀ old ∈ s.sched.queue, old.isLiveAnswer = true → x = { old with key := x.key })
        ∧ ((∀ old ∈ s.sched.queue, old.isLiveAnswer = false) → x = {
            kind := .answer, key := x.key, question := question, values := {}, retry := 0, discard := false
            inFlight := false }))
    ∧ t.sched.queue.filter (fun x => !x.isLiveAnswer) = s.sched.queue.filter fun x => !x.isLiveAnswer

/-! ### The round engine's order of work -/

/-- The oldest press is the first of a latch list: of the earliest stamp, and of equal stamps the lower seat's (R88).
The item that the round engine takes next, when each is it and when none is (R80, R83, R101, R114, R178): a press waits
for every frame, expiry and deadline at or before its stamp and for the clock to pass it, and is taken where it is
before them all; an expiry and a deadline wait for every frame stamped before them and for an eligible press, which has
an earlier stamp; a frame waits for an expiry and a deadline at or before its stamp and for an earlier press, and is
taken only when stored and with no pass in flight. That an expiry and a deadline of one instant go in that order is the
model's own choice (log entry 17). -/
def Obligations.EngineWorksInStampOrder : Prop :=
  (∀ t u : Stamp, (atOrAfter t u = true ↔ (t - u).toNat < 2 ^ 31) ∧ (before t u = true ↔ 2 ^ 31 ≤ (t - u).toNat))
  ∧ ∀ s : State,
    let eligible := fun (p : Press) => p.stamp ≠ s.clock.now ∧ atOrAfter s.clock.now p.stamp = true
      ∧ (∀ f ∈ waiting s, before p.stamp f.stamp = true) ∧ (∀ i, dueExpiry s = some i → before p.stamp i = true)
      ∧ ∀ i, dueDeadline s = some i → before p.stamp i = true
    let noPress := ∀ seat p, oldestPress s = some (seat, p) → ¬eligible p
    let expiryReady := fun i => dueExpiry s = some i ∧ ∀ f ∈ waiting s, before f.stamp i = false
    let deadlineReady := fun i => dueDeadline s = some i ∧ ∀ f ∈ waiting s, before f.stamp i = false
    let frameReady := fun (f : RxEntry) => s.store.queue.head? = some f ∧ f.claimed = false ∧ s.engine.pass = none
      ∧ s.engine.state ≠ .scoring ∧ (∀ i, dueExpiry s = some i → before f.stamp i = true)
      ∧ ∀ i, dueDeadline s = some i → before f.stamp i = true
    (waiting s = if s.engine.pass = none then s.store.queue else s.store.queue.tail)
    ∧ (∀ i, dueExpiry s = some i ↔ s.clock.timer.cond = .running ∧ s.clock.timer.due = true
        ∧ i = s.clock.timer.origin + s.clock.timer.offset + BitVec.ofNat 32 s.clock.timer.limit)
    ∧ (∀ i, dueDeadline s = some i ↔ s.roster.catchUp.state = .waiting ∧ s.roster.catchUp.deadline = some i
        ∧ (s.clock.now - i).toNat < 2 ^ 31)
    ∧ (oldestPress s = none ↔ ∀ seat : Seat, s.panel.seats[seat].latch = [])
    ∧ (∀ seat p, oldestPress s = some (seat, p) → s.panel.seats[seat].latch.head? = some p
      ∧ ((∀ (i : Seat) (x : Press), s.panel.seats[i].latch.head? = some x → (s.clock.now - x.stamp).toNat < 2 ^ 31) →
        ∀ (i : Seat) (x : Press), s.panel.seats[i].latch.head? = some x →
          (s.clock.now - x.stamp).toNat ≤ (s.clock.now - p.stamp).toNat ∧ (x.stamp = p.stamp → seat ≤ i)))
    ∧ (nextWork s = some .press ↔ ∃ seat p, oldestPress s = some (seat, p) ∧ eligible p
      ∧ ∀ f, frameReady f → before f.stamp p.stamp = false)
    ∧ (nextWork s = some .expiry ↔ noPress
      ∧ ∃ i, expiryReady i ∧ ∀ d, deadlineReady d → before d i = false)
    ∧ (nextWork s = some .deadline ↔ noPress
      ∧ ∃ d, deadlineReady d ∧ ∀ i, expiryReady i → before d i = true)
    ∧ (nextWork s = some .frame ↔ ∃ f, frameReady f
      ∧ ∀ seat p, oldestPress s = some (seat, p) → eligible p → before f.stamp p.stamp = true)
    ∧ (nextWork s = none ↔ noPress ∧ (∀ i, ¬expiryReady i) ∧ (∀ i, ¬deadlineReady i) ∧ ∀ f, ¬frameReady f)

/-! ### Frames taken by the round engine -/

/-- Whatever the frame, its key station goes to the roster first (R102, R168): present, with the team that a BUZZ,
ANSWER or TALLY declares after R31; the own entry stays. Its release takes it out of the front of the receive queue
(R66), and a refusal is the last refusal record overwritten whole (R103). -/
def Obligations.KeyStationGoesToTheRoster : Prop :=
  ∀ (s : State) (f : RxEntry),
    let st := keyStation f.key
    let h := hearFrame f s
    releaseFront s = { s with store := { s.store with queue := s.store.queue.tail } }
    ∧ (∀ why, refuseFrame f why s
        = { s with engine := { s.engine with refusal := { kind := some f.kind, reason := some why, key := f.key } } })
    ∧ changesOnly [.score, .roster, .link] s h ∧ h.roster.catchUp = s.roster.catchUp
    ∧ h.roster.watchFired = s.roster.watchFired ∧ h.score.records = s.score.records
    ∧ (st = s.straps.station → h = s)
    ∧ (∀ x : Station, x ≠ st → rosterOf h x = rosterOf s x)
    ∧ (st ≠ s.straps.station →
        (rosterOf h st).present = true
        ∧ (f.kind ≠ .buzz → f.kind ≠ .answer → f.kind ≠ .tally →
            (rosterOf h st).code = (rosterOf s st).code ∧ h.score = s.score ∧ h.link = s.link)
        ∧ (∀ k : Team, f.kind = .buzz ∨ f.kind = .answer → k.val + 1 = max 1 (min (numAt f.body 1) 7) →
            (rosterOf h st).code = some (.desk k))
        ∧ (∀ k : Team, f.kind = .tally → k.val + 1 = max 1 (min (numAt f.body 2) 7) →
            (rosterOf h st).code = some (.desk k)))

/-- A change of a station's code takes the sum of its seat totals from the old team and adds it to the new one, and the
standings are recomputed; the own code stays (R155). A station's seats are attached to the team that its code gives
(R154). -/
def Obligations.CodeChangeMovesTheContribution : Prop :=
  (∀ (s : State) (st : Station) (k : Team), attachedTeam s st = some k ↔ (rosterOf s st).code = some (.desk k))
  ∧ (∀ (s : State) (st : Station) (old new : Option Role) (k : Team),
    let sum := ((s.score.records.filter fun r => decide (r.station = st)).map (·.total)).sum
    (moveContribution st old new s).score.totals[k] = s.score.totals[k]
      - (if old = some (.desk k) then sum else 0) + (if new = some (.desk k) then sum else 0))
  ∧ (∀ (s : State) (st : Station) (code : Role), st ≠ s.straps.station → (rosterOf s st).code ≠ some code →
    let sum := ((s.score.records.filter fun r => decide (r.station = st)).map (·.total)).sum
    let t := setCode st code s
    changesOnly [.score, .roster, .link] s t
    ∧ t.roster = { s.roster with entries := putAt s.roster.entries st { rosterOf s st with code := some code } }
    ∧ t.score.records = s.score.records
    ∧ (∀ k : Team, t.score.totals[k] = s.score.totals[k]
        - (if (rosterOf s st).code = some (.desk k) then sum else 0) + (if code = .desk k then sum else 0))
    ∧ t.score.standings = standingsOf t
    ∧ onlyRaises [(decide (t.score.standings ≠ s.score.standings), .standings)] s t)
  ∧ (∀ (s : State) (code : Role), setCode s.straps.station code s = s)

/-- SHOW_TAKEN begins a show (R113, R153): an open question ends unscored, the show is the frame's and the last
question 0, every queue, table and lockout is emptied, other stations' records go and the own ones start again, the
timer is cleared, BUZZ, ANSWER and TALLY entries are purged, the seats' flags go, and adrift and catch-up with them.
-/
def Obligations.ShowTakenBeginsAShow : Prop :=
  ∀ (s : State) (f : RxEntry), frontTurn s f → f.kind = .newShow →
    ∃ u, exec .showTaken s = .next (settle (releaseFront u))
      ∧ u.held = false ∧ u.straps = s.straps ∧ u.pending = s.pending ∧ u.line = s.line
      ∧ u.engine = { s.engine with
          state := .closed, showNo := if numAt f.body 0 = 0 then 1 else numAt f.body 0, lastNo := 0
          question := if s.engine.state.isOpen then none else s.engine.question }
      ∧ u.clock = { s.clock with timer := timerClear }
      ∧ u.buzz = { queue := [], lockouts := [] } ∧ u.poll = { table := [], tally := Vector.replicate 4 0 }
      ∧ u.score.totals = Vector.replicate 7 0
      ∧ u.score.records = (s.score.records.filter fun r => decide (r.station = s.straps.station)).map (fun r =>
          { station := r.station, seat := r.seat, total := 0, streak := 0, outcome := .none, lastAward := 0 })
      ∧ u.score.standings = standingsOf u
      ∧ u.sched = {
          queue := condemned
            (fun e => decide (e.kind = .buzz) || decide (e.kind = .answer) || decide (e.kind = .tally)) s.sched.queue
          answers := [] }
      ∧ u.panel.reveal = none
      ∧ (∀ i : Seat, u.panel.seats[i] =
          { s.panel.seats[i] with buzzed := false, chosen := none, correct := false })
      ∧ u.store = { s.store with adrift := false }
      ∧ u.roster = { (hearFrame f s).roster with
          catchUp := { state := .none, expected := [], received := [], deadline := none } }
      ∧ onlyRaises [(true, .round), (decide (s.buzz.queue ≠ []), .floor),
          (decide (s.poll.tally ≠ Vector.replicate 4 0), .poll),
          (decide (standingsOf u ≠ s.score.standings), .standings),
          (decide (s.roster.catchUp.state ≠ .none), .catchUp)] s u

/-- OPEN_TAKEN opens its question (R99, R105, R106): an open one is voided, the show is settled and a mismatch sets
adrift, queues, tables and lockouts are emptied, the record is filled after the clamps of R31, and the timer starts at
the take stamp (R81, R82). An OPEN of the number now open is refused with REPEAT (R104). The BUZZ entries of other
questions are purged, and the pending answer list emptied (R53); that the ANSWER entries go with it whatever their
question number is the model's own choice (log entry 15), from R52. That adrift set where it stood ends a catch-up is
log entry 8. -/
def Obligations.OpenTakenBeginsAQuestion : Prop :=
  ∀ (s : State) (f : RxEntry), frontTurn s f → f.kind = .openQ →
    let show_ := if numAt f.body 0 = 0 then 1 else numAt f.body 0
    let number := if numAt f.body 1 = 0 then 1 else numAt f.body 1
    let windowMs := 1000 * max 1 (min (numAt f.body 6) 120)
    let lead := min (numAt f.body 7) 30
    let mode := byteAt f.body 2
    let mismatch := decide (s.engine.showNo ≠ 0 ∧ s.engine.showNo ≠ show_)
    let duplicate := s.engine.state.isOpen = true ∧ ∃ q, s.engine.question = some q ∧ q.number = number
    (duplicate → exec .openTaken s = .next (settle (releaseFront (refuseFrame f .again (hearFrame f s)))))
    ∧ (¬duplicate → ∃ u, exec .openTaken s = .next (settle (releaseFront u))
      ∧ u.held = false ∧ u.straps = s.straps ∧ u.pending = s.pending ∧ u.line = s.line ∧ u.score = s.score
      ∧ u.engine = { s.engine with
          state := .opened, showNo := show_, pass := none
          lastNo := if s.engine.state.isOpen then ((s.engine.question.map (·.number)).getD s.engine.lastNo)
            else s.engine.lastNo
          question := some {
            number := number, type := if mode.getLsbD 7 then .poll else .buzz
            base := min (numAt f.body 3) 250, penalty := min (numAt f.body 4) 250
            stake := max 1 (min (numAt f.body 5) 3), windowMs := windowMs, lead := lead
            scope := if mode.extractLsb' 5 2 = 1 then .desk else if mode.extractLsb' 5 2 = 2 then .team else .seat
            mode := if mode.getLsbD 4 then .last else .first
            choices := max 2 (min (mode.toNat % 8) 4), modeByte := mode } }
      ∧ u.clock = { s.clock with timer := {
          cond := .running, origin := f.stamp, limit := windowMs, start := f.stamp, offset := 0, previous := none
          haltStamp := none
          warnPoint := if lead = 0 then none else some (windowMs - 1000 * lead)
          warned := decide (lead ≠ 0) && (decide (windowMs ≤ 1000 * lead)
            || notBefore s.clock.now (f.stamp + BitVec.ofNat 32 (windowMs - 1000 * lead)))
          due := notBefore s.clock.now (f.stamp + BitVec.ofNat 32 windowMs) } }
      ∧ u.buzz = { queue := [], lockouts := [] } ∧ u.poll = { table := [], tally := Vector.replicate 4 0 }
      ∧ u.sched = {
          queue := condemned
            (fun e => decide (e.kind = .answer) || (decide (e.kind = .buzz) && decide (e.question ≠ number)))
            s.sched.queue
          answers := [] }
      ∧ u.panel.reveal = none
      ∧ (∀ i : Seat, u.panel.seats[i] =
          { s.panel.seats[i] with buzzed := false, chosen := none, correct := false })
      ∧ u.store = { s.store with adrift := s.store.adrift || mismatch }
      ∧ u.roster = { (hearFrame f s).roster with
          catchUp := if mismatch = true ∨ s.roster.catchUp.state = .waiting then
              { state := .none, expected := [], received := [], deadline := none }
            else s.roster.catchUp }
      ∧ onlyRaises [(true, .round), (decide (s.buzz.queue ≠ []), .floor),
          (decide (s.poll.tally ≠ Vector.replicate 4 0), .poll), (mismatch && !s.store.adrift, .health),
          (decide (s.roster.catchUp.state = .waiting ∨ (mismatch = true ∧ s.roster.catchUp.state ≠ .none)),
            .catchUp)] s u)

/-- A frame that names a question and fails the question test is refused with the reason of R102's table: only the
last refusal record, and what the key station gave the roster, change (R102, R103). -/
def Obligations.QuestionTestRefusesByItsTable : Prop :=
  (∀ n : Nat, clampNumber n = if n = 0 then 1 else n)
  ∧ ∀ (s : State) (f : RxEntry) (why : Reason), frontTurn s f → questionFault s f = some why →
    ∀ p ∈ [(Kind.halt, Instr.haltTaken), (.resume, .resumeTaken), (.closeQ, .closeTaken), (.verdict, .verdictTaken),
      (.buzz, .buzzTaken), (.answer, .answerTaken), (.reveal, .revealTaken)], f.kind = p.1 →
      ∃ u, exec p.2 s = .next (settle (releaseFront u)) ∧ changesOnly [.engine] (hearFrame f s) u
        ∧ u.engine = { s.engine with refusal := { kind := some f.kind, reason := some why, key := f.key } }

/-- CLOSE_TAKEN ends the question unscored (R108, R109); HALT_TAKEN freezes the timer at the take stamp (R81, R110);
RESUME_TAKEN begins a new stretch, with the halted time added to the offset (R81, R111). That the RESUME sets warned at
once where the clock has passed the new warn instant is the model's own choice (log entry 29). -/
def Obligations.CloseHaltAndResumeTaken : Prop :=
  ∀ (s : State) (f : RxEntry) (q : Question), frontTurn s f → openQuestionIs s q →
    clampNumber (numAt f.body 0) = q.number →
    let h := hearFrame f s
    let t := s.clock.timer
    (f.kind = .closeQ → ∃ u, exec .closeTaken s = .next (settle (releaseFront u)) ∧ ended h q u)
    ∧ (f.kind = .halt → s.engine.state = .opened → t.cond = .running →
      exec .haltTaken s = .next (settle (releaseFront (raise .round { h with
        engine := { s.engine with state := .halted }
        clock := { s.clock with timer := { t with
          cond := .halted, haltStamp := some f.stamp, due := false
          warned := t.warned
            && t.warnPoint.all fun p => notBefore f.stamp (t.origin + t.offset + BitVec.ofNat 32 p) } } }))))
    ∧ (∀ stop, f.kind = .resume → s.engine.state = .halted → t.cond = .halted → t.haltStamp = some stop →
      let offset := t.offset + (f.stamp - stop)
      exec .resumeTaken s = .next (settle (releaseFront (raise .round { h with
        engine := { s.engine with state := .opened }
        clock := { s.clock with timer := { t with
          cond := .running, previous := some { start := t.start, offset := t.offset, stop := stop }
          start := f.stamp, offset := offset, haltStamp := none
          warned := t.warned
            || t.warnPoint.any (fun p => notBefore s.clock.now (t.origin + offset + BitVec.ofNat 32 p))
          due := notBefore s.clock.now (t.origin + offset + BitVec.ofNat 32 t.limit) } } }))))

/-- A seat is locked out where it, its station or its team is in the lockout set (R117). BUZZ_TAKEN (R120 to R123):
refused as LATE, REPEAT, LOCKED or FULL in the order of the tests, or queued by its key, with the last entry evicted
where 16 stand and the new key is smaller. A record created stands in its place by station and seat, its fields as they
begin (R151, R152). -/
def Obligations.BuzzTakenQueuesOrRefuses : Prop :=
  (∀ (s : State) (st : Station) (seat : Seat) (team : Option Team),
    (lockedOut s st seat team = true ↔ ∃ unit ∈ s.buzz.lockouts, belongs st seat team unit = true)
    ∧ (∀ a b, belongs st seat team (.seat a b) = true ↔ st = a ∧ seat = b)
    ∧ (∀ a, belongs st seat team (.station a) = true ↔ st = a)
    ∧ ∀ k, belongs st seat team (.team k) = true ↔ team = some k)
  ∧ (∀ (r : Role) (k : Team), teamOf (some r) = some k ↔ r = .desk k)
  ∧ (∀ (st : Station) (seat : Seat) (l : List SeatRecord), recordsOrdered l →
    (∀ x ∈ l, ¬(x.station = st ∧ x.seat = seat)) →
    let new : SeatRecord := { station := st, seat := seat, total := 0, streak := 0, outcome := .none, lastAward := 0 }
    newRecord st seat = new ∧ (insertRecord new l).Perm (new :: l) ∧ recordsOrdered (insertRecord new l))
  ∧ ∀ (s : State) (f : RxEntry) (q : Question) (team : Team), frontTurn s f → f.kind = .buzz → openQuestionIs s q →
    q.type = .buzz → clampNumber (numAt f.body 0) = q.number → buzzSound s →
    team.val + 1 = max 1 (min (numAt f.body 1) 7) →
    let h := hearFrame f s
    let st := keyStation f.key
    let seat := keySeat f.key
    let entry : BuzzEntry := { station := st, seat := seat, team := team, e := keyOrder f.key, key := f.key }
    let queued := ∃ b ∈ s.buzz.queue, b.station = st ∧ b.seat = seat
    let refused := fun why => exec .buzzTaken s = .next (settle (releaseFront (refuseFrame f why h)))
    let takes := fun (stays : List BuzzEntry) => ∃ u, exec .buzzTaken s = .next (settle (releaseFront u))
      ∧ changesOnly [.buzz, .score, .link] h u ∧ u.buzz.lockouts = s.buzz.lockouts
      ∧ u.buzz.queue.Perm (entry :: stays) ∧ u.buzz.queue.Pairwise (fun a b => a.key < b.key)
      ∧ seatGiven h st seat u
      ∧ onlyRaises [(true, .floor), (decide (u.score.standings ≠ h.score.standings), .standings)] h u
    (q.windowMs ≤ keyOrder f.key → refused .late)
    ∧ (keyOrder f.key < q.windowMs → queued → refused .again)
    ∧ (keyOrder f.key < q.windowMs → ¬queued → lockedOut s st seat (some team) = true → refused .locked)
    ∧ (keyOrder f.key < q.windowMs → ¬queued → lockedOut s st seat (some team) = false →
        (s.buzz.queue.length < 16 → takes s.buzz.queue)
        ∧ (∀ last, s.buzz.queue.length = 16 → s.buzz.queue.getLast? = some last → last.key < f.key → refused .full)
        ∧ (∀ last, s.buzz.queue.length = 16 → s.buzz.queue.getLast? = some last → f.key < last.key →
            takes s.buzz.queue.dropLast))

/-- VERDICT_TAKEN that names the floor with CORRECT (R125, R158, R159): the award to the floor seat's record and its
team, the correct mark at its own station, and the end of the question. -/
def Obligations.VerdictCorrectAwardsAndEnds : Prop :=
  ∀ (s : State) (f : RxEntry) (q : Question) (b : BuzzEntry) (r : SeatRecord), frontTurn s f → f.kind = .verdict →
    openQuestionIs s q → q.type = .buzz → clampNumber (numAt f.body 0) = q.number →
    s.buzz.queue.head? = some b → (byteAt f.body 1).toNat = b.station.val * 8 + b.seat.val → byteAt f.body 2 = 1 →
    recordsOrdered s.score.records → recordOf s b.station b.seat = some r →
    let h := hearFrame f s
    let award := awardOf q.base q.windowMs b.e r.streak q.stake
    ∃ m u, exec .verdictTaken s = .next (settle (releaseFront u)) ∧ changesOnly [.score, .panel, .link] h m
      ∧ seatScored h r { r with
          total := clampTotal (r.total + award), streak := min (r.streak + 1) 15, outcome := .correct
          lastAward := award } m
      ∧ m.panel = (if b.station = s.straps.station then
            { s.panel with seats := putAt s.panel.seats b.seat { s.panel.seats[b.seat] with correct := true } }
          else s.panel)
      ∧ onlyRaises [(decide (standingsOf m ≠ h.score.standings), .standings)] h m
      ∧ ended m q u

/-- VERDICT_TAKEN that names the floor with WRONG penalises the seat, locks its unit out and removes the unit's
entries (R54, R126, R127, R160); with VOID or an unknown outcome it removes the floor entry alone, and its seat may
buzz again (R31, R128); a VERDICT that does not name the floor is refused with NOT-FLOOR (R124). -/
def Obligations.VerdictWrongVoidAndNotFloor : Prop :=
  ∀ (s : State) (f : RxEntry) (q : Question), frontTurn s f → f.kind = .verdict → openQuestionIs s q →
    q.type = .buzz → clampNumber (numAt f.body 0) = q.number →
    let h := hearFrame f s
    let named := fun (b : BuzzEntry) => (byteAt f.body 1).toNat = b.station.val * 8 + b.seat.val
    (∀ (b : BuzzEntry) (r : SeatRecord), s.buzz.queue.head? = some b → named b → byteAt f.body 2 = 2 →
      recordsOrdered s.score.records → recordOf s b.station b.seat = some r →
      let unit : LockUnit := match q.scope with
        | .seat => .seat b.station b.seat
        | .desk => .station b.station
        | .team => .team b.team
      ∃ u, exec .verdictTaken s = .next (settle (releaseFront u)) ∧ changesOnly [.sched, .buzz, .score, .link] h u
        ∧ seatScored h r { r with
            total := clampTotal (r.total - q.penalty * q.stake), streak := 0, outcome := .wrong
            lastAward := -(q.penalty * q.stake) } u
        ∧ u.buzz = {
            lockouts := if unit ∈ s.buzz.lockouts then s.buzz.lockouts else s.buzz.lockouts ++ [unit]
            queue := s.buzz.queue.filter fun x => !belongs x.station x.seat (some x.team) unit }
        ∧ u.sched = { s.sched with
            queue := condemned
              (fun e => decide (e.kind = .buzz)
                && belongs s.straps.station (keySeat e.key) (teamOf (some s.straps.role)) unit) s.sched.queue }
        ∧ onlyRaises [(true, .floor), (decide (standingsOf u ≠ h.score.standings), .standings)] h u)
    ∧ (∀ b : BuzzEntry, s.buzz.queue.head? = some b → named b → byteAt f.body 2 ≠ 1 → byteAt f.body 2 ≠ 2 →
      ∃ u, exec .verdictTaken s = .next (settle (releaseFront u)) ∧ changesOnly [.panel, .buzz, .link] h u
        ∧ u.buzz = { s.buzz with queue := s.buzz.queue.tail }
        ∧ u.panel = (if b.station = s.straps.station then
              { s.panel with seats := putAt s.panel.seats b.seat { s.panel.seats[b.seat] with buzzed := false } }
            else s.panel)
        ∧ onlyRaises [(true, .floor)] h u)
    ∧ ((∀ b, s.buzz.queue.head? = some b → ¬named b) →
      exec .verdictTaken s = .next (settle (releaseFront (refuseFrame f .notFloor h))))

/-- ANSWER_TAKEN judges the entries of its body one at a time, from the first to the last, and raises POLL once if a
count has changed (R32, R140, R142); the entries are those that R38 lays out. One entry of an accepted ANSWER (R32,
R136, R140, R141): ignored out of range; a record created where the seat has none; a record that stands in FIRST mode
and against an e that is not later; otherwise its choice and e replaced in its place, the tally following. -/
def Obligations.AnswerEntriesAreJudgedByRecordAndMode : Prop :=
  ((∀ (s : State) (f : RxEntry) (q : Question), frontTurn s f → f.kind = .answer → openQuestionIs s q →
    q.type = .poll → clampNumber (numAt f.body 0) = q.number →
    ∃ m u, exec .answerTaken s = .next (settle (releaseFront u)) ∧ changesOnly [.link] m u
      ∧ m = (answerEntries (f.body.drop 2)).foldl (judgeAnswer (keyStation f.key) q) (hearFrame f s)
      ∧ onlyRaises [(decide (m.poll.tally ≠ s.poll.tally), .poll)] m u)
  ∧ answerEntries [] = []
  ∧ (∀ a b c : Byte, ∀ rest : List Byte, ∃ x, answerEntries (a :: b :: c :: rest) = x :: answerEntries rest
      ∧ x.seat.val = a.toNat / 32 ∧ x.choice.val = a.toNat / 8 % 4
      ∧ x.e = a.toNat % 8 * 65536 + b.toNat * 256 + c.toNat))
  ∧ (∀ (s : State) (st : Station) (q : Question) (a : AnswerEntry),
    let new : PollRecord := { station := st, seat := a.seat, choice := a.choice, e := a.e }
    let u := judgeAnswer st q s a
    (q.choices ≤ a.choice.val ∨ q.windowMs ≤ a.e → u = s)
    ∧ (a.choice.val < q.choices → a.e < q.windowMs → pollOf s st a.seat = none → pollOrdered s.poll.table →
        changesOnly [.poll, .score, .link] s u ∧ u.poll.table.Perm (new :: s.poll.table)
        ∧ pollOrdered u.poll.table
        ∧ (∀ c : Choice, u.poll.tally[c] = s.poll.tally[c] + if c = a.choice then 1 else 0)
        ∧ seatGiven s st a.seat u
        ∧ onlyRaises [(decide (u.score.standings ≠ s.score.standings), .standings)] s u)
    ∧ (∀ old, a.choice.val < q.choices → a.e < q.windowMs → pollOf s st a.seat = some old →
        (q.mode = .first → u = s)
        ∧ (q.mode = .last → a.e ≤ old.e → u = s)
        ∧ (q.mode = .last → old.e < a.e → tallyAgrees s →
            changesOnly [.poll] s u
            ∧ u.poll.table = s.poll.table.map (fun x => if x = old then new else x)
            ∧ ∀ c : Choice, u.poll.tally[c] + (if c = old.choice then 1 else 0)
                = s.poll.tally[c] + if c = a.choice then 1 else 0)))

/-- REVEAL_TAKEN (R33, R114, R144, R145): a reduced set that is not empty is shown, stops the timer, closes the count
and begins the pass, the REVEAL keeping its place; an empty one ends the question unscored. -/
def Obligations.RevealTakenBeginsThePassOrVoids : Prop :=
  ∀ (s : State) (f : RxEntry) (q : Question) (set : ChoiceSet), frontTurn s f → f.kind = .reveal →
    openQuestionIs s q → q.type = .poll → clampNumber (numAt f.body 0) = q.number →
    (∀ c : Choice, inSet set c = (decide (c.val < q.choices) && (byteAt f.body 1).getLsbD c.val)) →
    let h := hearFrame f s
    let t := s.clock.timer
    (set ≠ 0 → ∃ u, exec .revealTaken s = .next (settle u)
      ∧ changesOnly [.sched, .panel, .clock, .engine, .link] h u
      ∧ u.engine = { s.engine with state := .scoring, pass := some set }
      ∧ u.panel = { s.panel with reveal := some set }
      ∧ u.sched = {
          queue := condemned (fun e => decide (e.kind = .buzz) || decide (e.kind = .answer)) s.sched.queue
          answers := [] }
      ∧ (t.cond = .running → u.clock = { s.clock with timer := { t with
          cond := .stopped, haltStamp := some f.stamp, due := false } })
      ∧ (t.cond = .halted → u.clock = { s.clock with timer := { t with cond := .stopped, due := false } })
      ∧ (t.cond = .expired → u.clock = { s.clock with timer := { t with
          cond := .stopped, haltStamp := some (t.origin + t.offset + BitVec.ofNat 32 t.limit), due := false } })
      ∧ onlyRaises [(true, .round)] h u)
    ∧ (set = 0 → ∃ u, exec .revealTaken s = .next (settle (releaseFront u)) ∧ ended h q u)

/-- SCORE_PASS_COMPLETE (R108, R114, R161, R162): every record becomes what the first row of R161's table that applies
makes of it, the team totals move with the records attached to them, the list is recomputed once, and the question
ends with no second signal. -/
def Obligations.ScorePassScoresEveryRecordAtOnce : Prop :=
  ∀ (s : State) (q : Question) (set : ChoiceSet), s.held = false → s.engine.state = .scoring →
    s.engine.question = some q → s.engine.pass = some set → recordsOrdered s.score.records →
    let row := fun (r : SeatRecord) => match pollOf s r.station r.seat with
      | some p =>
        if inSet set p.choice = true then
          { r with
            total := clampTotal (r.total + awardOf q.base q.windowMs p.e r.streak q.stake)
            streak := min (r.streak + 1) 15, outcome := .correct
            lastAward := awardOf q.base q.windowMs p.e r.streak q.stake }
        else { r with streak := 0, outcome := .wrong, lastAward := 0 }
      | none =>
        if (rosterOf s r.station).present = true then { r with streak := 0, outcome := .noAnswer, lastAward := 0 }
        else r
    ∃ u, exec .scorePassComplete s = .next (settle (releaseFront u))
      ∧ changesOnly [.sched, .clock, .engine, .buzz, .poll, .score, .link] s u
      ∧ u.score.records = s.score.records.map row
      ∧ (∀ k : Team, u.score.totals[k] = s.score.totals[k]
          + ((s.score.records.filter fun r => decide (attachedTeam s r.station = some k)).map
              fun r => (row r).total - r.total).sum)
      ∧ u.score.standings = standingsOf u
      ∧ u.engine = { s.engine with state := .closed, lastNo := q.number, question := none, pass := none }
      ∧ u.buzz = { s.buzz with queue := [] } ∧ u.poll = { table := [], tally := Vector.replicate 4 0 }
      ∧ u.clock = { s.clock with timer := timerClear }
      ∧ u.sched = helloIf (s.store.adrift && decide (s.roster.catchUp.state = .none)) s.straps.station s.sched
      ∧ onlyRaises [(true, .round), (decide (s.buzz.queue ≠ []), .floor),
          (decide (s.poll.tally ≠ Vector.replicate 4 0), .poll),
          (decide (standingsOf u ≠ s.score.standings), .standings)] s u

/-- The standings list (R164, R165): exactly the teams with a seat record attached to them, at most 7, each with its
team total, highest first and equal totals in ascending team number, each rank 1 more than the number of strictly
higher totals; a recompute puts it in place and raises STANDINGS where it differs from the list before. -/
def Obligations.StandingsAreRankedByTotal : Prop :=
  ∀ s : State,
    let l := standingsOf s
    l.Pairwise (fun a b => b.total < a.total ∨ (a.total = b.total ∧ a.team < b.team)) ∧ l.length ≤ 7
    ∧ (∀ k : Team, (∃ x ∈ l, x.team = k) ↔ ∃ r ∈ s.score.records, attachedTeam s r.station = some k)
    ∧ (∀ x ∈ l, x.total = s.score.totals[x.team]
        ∧ x.rank = 1 + (l.filter fun y => decide (x.total < y.total)).length)
    ∧ changesOnly [.score, .link] s (recompute s)
    ∧ (recompute s).score = { s.score with standings := l }
    ∧ onlyRaises [(decide (l ≠ s.score.standings), .standings)] s (recompute s)

/-- The award is floor((B + S) × m × k / 8) with S = floor(B × (W_ms − e) / (2 × W_ms)) and m = 8 + min(s, 4), in 0 to
1687, and an award of 0 is still a correct answer; the penalty is P × k, in 0 to 750 (R156, R157). A seat total is
clamped to −9999 to 29999 (R151). -/
def Obligations.AwardAndPenaltyArithmetic : Prop :=
  (∀ base windowMs e streak stake : Nat, base ≤ 250 → 1000 ≤ windowMs → windowMs ≤ 120000 → e < windowMs →
    streak ≤ 15 → 1 ≤ stake → stake ≤ 3 →
    let bonus := base * (windowMs - e) / (2 * windowMs)
    let m := 8 + min streak 4
    awardOf base windowMs e streak stake = (base + bonus) * m * stake / 8
    ∧ bonus ≤ base / 2 ∧ (e = 0 → bonus = base / 2) ∧ 8 ≤ m ∧ m ≤ 12
    ∧ base * (windowMs - e) ≤ 30000000 ∧ 2 * windowMs ≤ 240000 ∧ (base + bonus) * m * stake ≤ 13500
    ∧ awardOf base windowMs e streak stake ≤ 1687
    ∧ (base = 0 → awardOf base windowMs e streak stake = 0))
  ∧ awardOf 250 120000 0 4 3 = 1687 ∧ awardOf 100 20000 3512 2 1 = 176 ∧ awardOf 100 20000 3512 5 2 = 423
  ∧ (∀ t : Int, clampTotal t = max (-9999) (min t 29999))
  ∧ (∀ (q : Question) (e : Nat) (r : SeatRecord), (awardRecord q e r).outcome = .correct
      ∧ (awardRecord q e r).streak = min (r.streak + 1) 15)
  ∧ (∀ penalty stake : Nat, penaltyOf penalty stake = penalty * stake
      ∧ (penalty ≤ 250 → stake ≤ 3 → penaltyOf penalty stake ≤ 750))
  ∧ (∀ (q : Question) (r : SeatRecord),
      (penaliseRecord q r).total = clampTotal (r.total - (q.penalty * q.stake : Nat))
      ∧ (penaliseRecord q r).lastAward = -((q.penalty * q.stake : Nat) : Int))
  ∧ (∀ (q : Question) (set : ChoiceSet) (s : State) (r : SeatRecord) (p : PollRecord),
      pollOf s r.station r.seat = some p → inSet set p.choice = false → (passRecord q set s r).total = r.total)

/-! ### Roll call and catch-up -/

/-- ROLL_TAKEN (R169, R170): another known show refuses it before any mark is applied; otherwise every marked station
is present with the code of its last mark, and of a complete tail every other one is absent, its code kept. The
catch-up record, the last question number and the transmit queue stay. -/
def Obligations.RollTakenIsACensus : Prop :=
  ∀ (s : State) (f : RxEntry), frontTurn s f → f.kind = .roll →
    let h := hearFrame f s
    let show_ := if numAt f.body 0 = 0 then 1 else numAt f.body 0
    let last := fun (st : Station) => f.marks.reverse.find? fun m => decide (m.toNat / 8 = st.val)
    (s.engine.showNo ≠ 0 → s.engine.showNo ≠ show_ →
      exec .rollTaken s = .next (settle (releaseFront (refuseFrame f .showDiffers h))))
    ∧ (s.engine.showNo = 0 ∨ s.engine.showNo = show_ →
      ∃ u, exec .rollTaken s = .next (settle (releaseFront u)) ∧ u = census f h
        ∧ changesOnly [.score, .roster, .link] h u
        ∧ u.roster.catchUp = s.roster.catchUp ∧ u.score.records = s.score.records
        ∧ rosterOf u s.straps.station = rosterOf s s.straps.station
        ∧ ∀ st : Station, st ≠ s.straps.station →
          (∀ m, last st = some m → rosterOf u st = { code := some (roleOfCode (m.extractLsb' 0 3)), present := true })
          ∧ (last st = none → rosterOf u st = { rosterOf h st with present := f.tailCut && (rosterOf h st).present }))

/-- HELLO_TAKEN (R174, R175): after the census, the own HELLO begins a catch-up, WAITING for the desks that marked or
DONE at once where none did, and leaves the record where a condition fails; another station's draws a TALLY from a
desk and nothing from a presenter. -/
def Obligations.HelloTakenBeginsOrAnswersACatchUp : Prop :=
  ∀ (s : State) (f : RxEntry), frontTurn s f → f.kind = .hello →
    let c := census f (hearFrame f s)
    let own := keyStation f.key = s.straps.station ∧ s.store.twin = false
    let begins := s.store.adrift = true ∧ s.roster.catchUp.state = .none
      ∧ (s.engine.state = .standby ∨ s.engine.state = .closed) ∧ f.tailCut = false
    let desk := fun (st : Station) => st ≠ s.straps.station
      ∧ ∃ m ∈ f.marks, m.toNat / 8 = st.val ∧ m.toNat % 8 ≠ 0
    (own → begins → (∃ st, desk st) → ∃ expected : List Station, expected.Nodup
      ∧ (∀ st, st ∈ expected ↔ desk st)
      ∧ exec .helloTaken s = .next (settle (releaseFront (raise .catchUp { c with roster := { c.roster with
          catchUp := { state := .waiting, expected := expected, received := []
                       deadline := some (f.stamp + 4000) } } }))))
    ∧ (own → begins → (¬∃ st, desk st) →
        exec .helloTaken s = .next (settle (releaseFront (raise .catchUp { c with
          store := { c.store with adrift := false }
          roster := { c.roster with
            catchUp := { state := .done, expected := [], received := [], deadline := none } } }))))
    ∧ (own → ¬begins → exec .helloTaken s = .next (settle (releaseFront c)))
    ∧ (¬own → s.straps.role = .presenter → exec .helloTaken s = .next (settle (releaseFront c)))
    ∧ (∀ k, ¬own → s.straps.role = .desk k →
        (stands .tally s = true → exec .helloTaken s = .next (settle (releaseFront c)))
        ∧ (stands .tally s = false → s.sched.queue.length < 12 →
          exec .helloTaken s = .next (settle (releaseFront { c with
            sched := { c.sched with
              queue := insertByKey {
                kind := .tally, key := mkKey 7 0 s.straps.station 0, question := 0, values := {}, retry := 0
                discard := false, inFlight := false } c.sched.queue } }))))

/-- TALLY_TAKEN (R163, R177): another known show refuses it; an unknown one is adopted, and STANDBY passes to CLOSED;
the sender's seats 0 to s − 1 take the TALLY's totals and streaks, records being created where there are none, and a
WAITING catch-up counts the sender and is DONE once it has every expected station. -/
def Obligations.TallyTakenOverwritesAndCounts : Prop :=
  ∀ (s : State) (f : RxEntry), frontTurn s f → f.kind = .tally → recordsOrdered s.score.records →
    let h := hearFrame f s
    let st := keyStation f.key
    let count := numAt f.body 3
    let show_ := if numAt f.body 0 = 0 then 1 else numAt f.body 0
    let c := s.roster.catchUp
    let received := if st = s.straps.station ∨ st ∈ c.received then c.received else c.received ++ [st]
    (s.engine.showNo ≠ 0 → s.engine.showNo ≠ show_ →
      exec .tallyTaken s = .next (settle (releaseFront (refuseFrame f .showDiffers h))))
    ∧ (s.engine.showNo = 0 ∨ s.engine.showNo = show_ →
      ∃ u, exec .tallyTaken s = .next (settle (releaseFront u))
        ∧ changesOnly [.sched, .store, .engine, .score, .roster, .link] h u
        ∧ u.engine = (if s.engine.showNo = 0 then
            { s.engine with
              showNo := show_, lastNo := numAt f.body 1
              state := if s.engine.state = .standby then .closed else s.engine.state }
          else s.engine)
        ∧ u.sched = helloIf
            (s.store.adrift && decide (s.engine.showNo = 0 ∧ s.engine.state = .standby ∧ c.state = .none))
            s.straps.station s.sched
        ∧ recordsOrdered u.score.records
        ∧ (∀ (x : Station) (i : Seat), x ≠ st ∨ count ≤ i.val → recordOf u x i = recordOf s x i)
        ∧ (∀ i : Seat, i.val < count → recordOf u st i = some
            { (recordOf s st i).getD (newRecord st i) with
              total := tallyTotal f.body i.val, streak := tallyStreak f.body count i.val })
        ∧ (scoresAddUp h → scoresAddUp u) ∧ u.score.standings = standingsOf u
        ∧ u.roster.entries = h.roster.entries
        ∧ (c.state ≠ .waiting → u.roster = h.roster ∧ u.store = s.store)
        ∧ (c.state = .waiting → (∃ x ∈ c.expected, x ∉ received) →
            u.roster = { h.roster with catchUp := { c with received := received } } ∧ u.store = s.store)
        ∧ (c.state = .waiting → (∀ x ∈ c.expected, x ∈ received) →
            u.roster = { h.roster with catchUp :=
              { state := .done, expected := c.expected, received := received, deadline := none } }
            ∧ u.store = { s.store with adrift := false })
        ∧ onlyRaises [(decide (s.engine.showNo = 0), .round),
            (decide (u.score.standings ≠ h.score.standings), .standings),
            (decide (c.state = .waiting) && c.expected.all fun x => decide (x ∈ received), .catchUp)] h u)

/-- CATCH_UP_DEADLINE returns a WAITING catch-up to NONE, adrift as it was (R178); IDLE_WATCH, at 2000 ms of IDLE in
STANDBY with adrift set and no catch-up, requests a HELLO, once in a stretch (R42, R172, R173). -/
def Obligations.DeadlineAndIdleWatchTakeTheirInstants : Prop :=
  (∀ s : State, s.held = false → nextWork s = some .deadline →
    exec .catchUpDeadline s = .next (settle (raise .catchUp { s with roster := { s.roster with
      catchUp := { state := .none, expected := [], received := [], deadline := none } } })))
  ∧ (∀ (s : State) (since : Stamp), s.held = false → lineIdle s = true → s.line.idleSince = some since →
    s.clock.now = since + 2000 → s.roster.watchFired = false → s.engine.state = .standby →
    s.store.adrift = true → s.roster.catchUp.state = .none →
    let watched := { s with roster := { s.roster with watchFired := true } }
    (stands .hello s = true ∨ 12 ≤ s.sched.queue.length → exec .idleWatch s = .next (settle watched))
    ∧ (stands .hello s = false → s.sched.queue.length < 12 →
      exec .idleWatch s = .next (settle { watched with
        sched := { s.sched with
          queue := insertByKey {
            kind := .hello, key := mkKey 6 0 s.straps.station 0, question := 0, values := {}, retry := 0
            discard := false, inFlight := false } s.sched.queue } })))

/-! ### The desk link -/

/-- The six reads are answered at once with OK and the data that R40 lays out, whatever the role, and nothing else
moves (R184, R185). A seat's place in the buzz queue counts from 1, and is 0 where it has none. That the SEAT reply's
lockout flag takes the team that the roster gives the station is the model's own choice (log entry 19). -/
def Obligations.ReadCommandsAnswerTheirData : Prop :=
  ([RoundState.standby, .closed, .opened, .halted, .expired, .scoring].map stateCode = [0, 1, 2, 3, 4, 5]
    ∧ [Health.active, .warning, .quiet, .off].map healthCode = [0, 1, 2, 3]
    ∧ [CatchUpState.none, .waiting, .done].map catchUpCode = [0, 1, 2]
    ∧ [none, some Reason.question, some .state, some .notFloor, some .locked, some .again, some .full, some .late,
        some .showDiffers].map reasonCode = [0, 1, 2, 3, 4, 5, 6, 7, 8]
    ∧ [none, some Cause.framing, some .syn, some .length, some .kind, some .shape, some .check, some .disturbed,
        some .stuck, some .twin].map causeCode = [0, 1, 2, 3, 4, 5, 6, 7, 8, 9]
    ∧ [SeatOutcome.none, .correct, .wrong, .noAnswer].map outcomeCode = [0, 1, 2, 3])
  ∧ (∀ (s : State) (st : Station) (seat : Seat),
    let names := fun (b : BuzzEntry) => b.station = st ∧ b.seat = seat
    ((∀ b ∈ s.buzz.queue, ¬names b) → floorPlace s st seat = 0)
    ∧ ∀ front b back, s.buzz.queue = front ++ b :: back → names b → (∀ x ∈ front, ¬names x) →
        floorPlace s st seat = front.length + 1)
  ∧ ∀ s : State, slotFree s →
    let bit := fun (b : Bool) => if b then 1 else 0
    let number := match s.engine.question with
      | some q => q.number
      | none => 0
    exec .statusCommand s = .next (settle (withReply 0x81 .ok
      ([byteOf (stateCode s.engine.state), byteOf s.engine.showNo, byteOf number, byteOf s.engine.lastNo,
          (match s.engine.question with
            | some q => q.modeByte
            | none => 0),
          byteOf ((s.clock.timer.countdown s.clock.now).getD 0), byteOf (healthCode s.store.health),
          byteOf s.store.count,
          byteOf (bit s.store.adrift + 2 * bit s.store.twin + 4 * bit s.line.fault),
          byteOf (catchUpCode s.roster.catchUp.state),
          (match s.engine.refusal.kind with
            | some k => kindCode k
            | none => 0),
          reasonCode s.engine.refusal.reason]
        ++ bytes4 s.engine.refusal.key
        ++ [causeCode s.store.lastFault.cause, byteOf s.store.lastFault.position]
        ++ bytes4 s.store.lastFault.key
        ++ [byteOf s.straps.station.val, byteOf (roleCode s.straps.role), byteOf s.straps.seatCount,
          byteOf (bit s.straps.fast)]) s))
    ∧ exec .standingsCommand s = .next (settle (withReply 0x82 .ok
        (byteOf s.score.standings.length :: s.score.standings.flatMap fun x =>
          [byteOf (x.team.val + 1), byteOf x.rank] ++ bytes4 (BitVec.ofInt 32 x.total)) s))
    ∧ (s.engine.question = none → exec .floorCommand s = .next (settle (withReply 0x83 .ok [0, 0] s)))
    ∧ (∀ q, s.engine.question = some q → exec .floorCommand s = .next (settle (withReply 0x83 .ok
        ([byteOf q.number, byteOf s.buzz.queue.length] ++ s.buzz.queue.flatMap fun b =>
          [byteOf (b.station.val * 8 + b.seat.val), byteOf (b.e / 65536), byteOf (b.e / 256), byteOf b.e]) s)))
    ∧ (∀ target : Byte, ∀ st : Station, ∀ seat : Seat, target.toNat = st.val * 8 + seat.val →
        let r := (recordOf s st seat).getD (newRecord st seat)
        exec (.seatCommand target) s = .next (settle (withReply 0x84 .ok
          ([target, byteOf (bit (recordOf s st seat).isSome)] ++ bytes2 (BitVec.ofInt 16 r.total)
            ++ [byteOf r.streak, byteOf (outcomeCode r.outcome)] ++ bytes2 (BitVec.ofInt 16 r.lastAward)
            ++ [(match pollOf s st seat with
                | some p => byteOf p.choice.val
                | none => 0xFF),
              byteOf (floorPlace s st seat), byteOf (bit (lockedOut s st seat (attachedTeam s st)))]) s)))
    ∧ (∀ n choices : Nat,
        (∀ q, s.engine.question = some q → q.type = .poll → n = q.number ∧ choices = q.choices) →
        ((∀ q, s.engine.question = some q → q.type ≠ .poll) → n = 0 ∧ choices = 0) →
        exec .votesCommand s = .next (settle (withReply 0x85 .ok
          ([byteOf n, byteOf choices]
            ++ bytes2 (BitVec.ofNat 16 s.poll.tally[0]) ++ bytes2 (BitVec.ofNat 16 s.poll.tally[1])
            ++ bytes2 (BitVec.ofNat 16 s.poll.tally[2]) ++ bytes2 (BitVec.ofNat 16 s.poll.tally[3])
            ++ bytes2 (BitVec.ofNat 16 s.poll.table.length)) s)))
    ∧ exec .rosterCommand s = .next (settle (withReply 0x86 .ok
        ((List.finRange 32).map fun (st : Station) => byteOf (128 * bit (rosterOf s st).present
          + match (rosterOf s st).code with
            | some r => 8 + roleCode r
            | none => 0)) s))

/-- NOTICES sets the mask and unmarks the kinds it disables (R185); CATCH-UP is refused with STATE, DUPLICATE or BUSY
in that order, or places a HELLO (R42, R172, R185); CLEAR-LINE is refused with STATE where the station may not send,
and otherwise begins or restarts the clear pulse (R21, R186). -/
def Obligations.NoticesCatchUpAndClearLineCommands : Prop :=
  (∀ (s : State) (mask : Byte), slotFree s →
    let kept := mask.extractLsb' 0 7
    let raised := s.link.raised &&& ~~~(s.link.mask &&& ~~~kept)
    exec (.noticesCommand mask) s = .next (settle (withReply 0x87 .ok [kept.setWidth 8, raised.setWidth 8]
      { s with link := { s.link with mask := kept, raised := raised } })))
  ∧ (∀ s : State, slotFree s →
    let open_ := s.store.adrift = true ∧ s.roster.catchUp.state = .none
    (¬open_ → exec .catchUpCommand s = .next (settle (withReply 0x88 (.refused .state) [] s)))
    ∧ (open_ → stands .hello s = true →
        exec .catchUpCommand s = .next (settle (withReply 0x88 (.refused .duplicate) [] s)))
    ∧ (open_ → stands .hello s = false → 12 ≤ s.sched.queue.length →
        exec .catchUpCommand s = .next (settle (withReply 0x88 (.refused .busy) [] s)))
    ∧ (open_ → stands .hello s = false → s.sched.queue.length < 12 →
        exec .catchUpCommand s = .next (settle (withReply 0x88 .ok [] (withEntry .hello 0 {} s)))))
  ∧ (∀ s : State, presenterReady s →
    (s.store.health = .off ∨ s.store.twin = true →
      exec .clearLineCommand s = .next (settle (withReply 0x98 (.refused .state) [] s)))
    ∧ (s.store.health ≠ .off → s.store.twin = false →
      ∃ u, exec .clearLineCommand s = .next (settle (withReply 0x98 .ok [] u))
      ∧ changesOnly [.line] s u ∧ u.line.tx = .clear ∧ u.line.idleSince = none ∧ u.line.fault = s.line.fault
      ∧ u.line.level = (if s.line.level = .stuck ∨ s.line.level = .pulse then s.line.level else .unsettled)
      ∧ u.line.frame = s.line.frame ∧ u.line.sent = s.line.sent ∧ u.line.disturbed = s.line.disturbed
      ∧ (∀ t, s.line.rx = .tail t → u.line.rx = .tail { t with mine := none })
      ∧ ((∀ t, s.line.rx ≠ .tail t) → u.line.rx = s.line.rx)))

/-- START-SHOW, ROLL, CLOSE, HALT and RESUME at a presenter (R41, R42, R186): refused with STATE, DUPLICATE or BUSY in
that order, or placed as one entry, ADJUSTED where the show number was clamped. An entry stands for a kind, or for a
kind and a question, where the queue holds one, in flight or not. -/
def Obligations.PresenterCommandsPlaceTheirEntries : Prop :=
  (∀ (k : Kind) (n : Nat) (s : State), (stands k s = true ↔ ∃ e ∈ s.sched.queue, e.kind = k)
    ∧ (standsFor k n s = true ↔ ∃ e ∈ s.sched.queue, e.kind = k ∧ e.question = n))
  ∧ ∀ s : State, presenterReady s →
    let full := 12 ≤ s.sched.queue.length
    let refused := fun (c : Instr) (kind : Byte) (why : Refused) =>
      exec c s = .next (settle (withReply kind (.refused why) [] s))
    let number := (s.engine.question.map (·.number)).getD 0
    (∀ showNo : Byte,
      (stands .newShow s = true → refused (.startShowCommand showNo) 0x90 .duplicate)
      ∧ (stands .newShow s = false → full → refused (.startShowCommand showNo) 0x90 .busy)
      ∧ (stands .newShow s = false → ¬full → exec (.startShowCommand showNo) s = .next (settle (withReply 0x90
          (if showNo = 0 then .adjusted else .ok) []
          (withEntry .newShow 0 { showNo := if showNo = 0 then 1 else showNo } s)))))
    ∧ (stands .roll s = true → refused .rollCommand 0x91 .duplicate)
    ∧ (stands .roll s = false → full → refused .rollCommand 0x91 .busy)
    ∧ (stands .roll s = false → ¬full →
        exec .rollCommand s = .next (settle (withReply 0x91 .ok [] (withEntry .roll 0 {} s))))
    ∧ ∀ p ∈ [(Instr.closeCommand, (0x94 : Byte), Kind.closeQ, s.engine.state.isOpen),
        (.haltCommand, 0x96, .halt, decide (s.engine.state = .opened)),
        (.resumeCommand, 0x97, .resume, decide (s.engine.state = .halted))],
      (p.2.2.2 = false → refused p.1 p.2.1 .state)
      ∧ (p.2.2.2 = true → standsFor p.2.2.1 number s = true → refused p.1 p.2.1 .duplicate)
      ∧ (p.2.2.2 = true → standsFor p.2.2.1 number s = false → full → refused p.1 p.2.1 .busy)
      ∧ (p.2.2.2 = true → standsFor p.2.2.1 number s = false → ¬full →
          exec p.1 s = .next (settle (withReply p.2.1 .ok [] (withEntry p.2.2.1 number {} s))))

/-- OPEN, VERDICT and REVEAL at a presenter (R31, R33, R130, R148, R186): the first test that fails refuses; otherwise
the entry is placed with the clamped or reduced values, and the reply is ADJUSTED where they differ from those given.
That the DUPLICATE test of an OPEN uses the clamped number is log entry 30, and that bit 3 of its mode byte stays in the
entry and does not make the reply ADJUSTED is log entry 18: the model's own choices. -/
def Obligations.OpenVerdictAndRevealCommands : Prop :=
  ∀ s : State, presenterReady s →
    let full := 12 ≤ s.sched.queue.length
    let refused := fun (c : Instr) (kind : Byte) (why : Refused) =>
      exec c s = .next (settle (withReply kind (.refused why) [] s))
    let current := (s.engine.question.map (·.number)).getD 0
    (∀ question mode base penalty stake window lead : Byte,
      let c := Instr.openCommand question mode base penalty stake window lead
      let number := if question = 0 then 1 else question.toNat
      let duplicate := (s.engine.state.isOpen = true ∧ current = number) ∨ standsFor .openQ number s = true
      let n := max 2 (min (mode.toNat % 8) 4)
      let given : CommandValues :=
        { mode := mode, base := base, penalty := penalty, stake := stake, window := window, lead := lead }
      let used : CommandValues :=
        { mode := ((if mode.extractLsb' 5 2 = 3 then mode &&& 0x9F#8 else mode) &&& 0xF8#8) ||| byteOf n
          base := byteOf (min base.toNat 250), penalty := byteOf (min penalty.toNat 250)
          stake := byteOf (max 1 (min stake.toNat 3)), window := byteOf (max 1 (min window.toNat 120))
          lead := byteOf (min lead.toNat 30) }
      (s.engine.state = .scoring → refused c 0x92 .state)
      ∧ (s.engine.state ≠ .scoring → duplicate → refused c 0x92 .duplicate)
      ∧ (s.engine.state ≠ .scoring → ¬duplicate → full → refused c 0x92 .busy)
      ∧ (s.engine.state ≠ .scoring → ¬duplicate → ¬full → exec c s = .next (settle (withReply 0x92
          (if used ≠ given ∨ question = 0 then .adjusted else .ok) [] (withEntry .openQ number used s)))))
    ∧ (∀ target outcome : Byte,
      let c := Instr.verdictCommand target outcome
      let fits := ∃ q, openQuestionIs s q ∧ q.type = .buzz
      let floor := ∃ b, s.buzz.queue.head? = some b ∧ target.toNat = b.station.val * 8 + b.seat.val
      let known := outcome = 1 ∨ outcome = 2 ∨ outcome = 3
      (¬fits → refused c 0x93 .state)
      ∧ (fits → ¬floor → refused c 0x93 .stale)
      ∧ (fits → floor → standsFor .verdict current s = true → refused c 0x93 .duplicate)
      ∧ (fits → floor → standsFor .verdict current s = false → full → refused c 0x93 .busy)
      ∧ (fits → floor → standsFor .verdict current s = false → ¬full → exec c s = .next (settle (withReply 0x93
          (if known then .ok else .adjusted) []
          (withEntry .verdict current { target := target, outcome := if known then outcome else 3 } s)))))
    ∧ ∀ set : Byte,
      let c := Instr.revealCommand set
      let fits := fun (q : Question) => s.engine.state = .expired ∧ s.engine.question = some q ∧ q.type = .poll
      ((¬∃ q, fits q) → refused c 0x95 .state)
      ∧ ((∃ q, fits q) → standsFor .reveal current s = true → refused c 0x95 .duplicate)
      ∧ ((∃ q, fits q) → standsFor .reveal current s = false → full → refused c 0x95 .busy)
      ∧ (∀ (q : Question) (reduced : Byte), fits q → standsFor .reveal current s = false → ¬full →
          (∀ i : Fin 8, reduced.getLsbD i.val
            = (decide (i.val < 4 ∧ i.val < q.choices) && set.getLsbD i.val)) →
          exec c s = .next (settle (withReply 0x95 (if reduced = set then .ok else .adjusted) []
            (withEntry .reveal current { set := reduced } s))))

/-- The form tests come first, and a refusal changes nothing and carries no data (R40, R184): a malformed record, one
that is not of the kind and body length of one of the seventeen commands (R39), is MALFORMED, and a presenter command
at a desk NOT-PRESENTER. With both slots held every record is lost, and the overrun condition set (R183).
RECORD_ABANDON of characters that end inside a record, as those do that break off after the lead byte and before the
last byte of the body, leaves the receiver hunting and nothing else (R182); REPLY_SENT frees the first slot (R183);
NOTICE_SENT leaves the transmitter idle (R188). What then begins is the settling. -/
def Obligations.RecordsRefusedLostAbandonedAndSent : Prop :=
  (∀ kind length : Byte, malformed kind length = false ↔ (kind.toNat, length.toNat) ∈ [(0x01, 0), (0x02, 0), (0x03, 0),
    (0x04, 1), (0x05, 0), (0x06, 0), (0x07, 1), (0x08, 0), (0x10, 1), (0x11, 0), (0x12, 7), (0x13, 2), (0x14, 0),
    (0x15, 1), (0x16, 0), (0x17, 0), (0x18, 0)])
  ∧ ((∀ (s : State) (kind length : Byte), slotFree s → malformed kind length = true →
    exec (.malformedRecord kind length) s
      = .next (settle (withReply (kind + 0x80) (.refused .malformed) [] s)))
  ∧ (∀ (s : State) (k : Team) (a b c d e f g : Byte), slotFree s → s.straps.role = .desk k →
    ∀ p ∈ [(Instr.startShowCommand a, (0x90 : Byte)), (.rollCommand, 0x91), (.openCommand a b c d e f g, 0x92),
      (.verdictCommand a b, 0x93), (.closeCommand, 0x94), (.revealCommand a, 0x95), (.haltCommand, 0x96),
      (.resumeCommand, 0x97), (.clearLineCommand, 0x98)],
      exec p.1 s = .next (settle (withReply p.2 (.refused .notPresenter) [] s)))
  ∧ (∀ (s : State) (a b c d e f g kind length : Byte), s.held = false → 2 ≤ s.link.replies.length →
    (∀ p ∈ [Instr.statusCommand, .standingsCommand, .floorCommand, .seatCommand a, .votesCommand, .rosterCommand,
      .noticesCommand a, .catchUpCommand, .startShowCommand a, .rollCommand, .openCommand a b c d e f g,
      .verdictCommand a b, .closeCommand, .revealCommand a, .haltCommand, .resumeCommand, .clearLineCommand,
      .recordLost],
      exec p s = .next (settle { s with link := { s.link with overrun := true } }))
    ∧ (malformed kind length = true →
      exec (.malformedRecord kind length) s = .next (settle { s with link := { s.link with overrun := true } }))))
  ∧ ((∀ (noise body : List Byte) (kind length : Byte), (∀ b ∈ noise, b ≠ 0xA5) → body.length < length.toNat →
    length.toNat ≤ 80 → ∀ n, endsInsideRecord (((noise ++ [0xA5, kind, length] ++ body).take
      (noise.length + 1 + n)).map fun b => uartRead (uartChar b)) = true)
  ∧ (∀ (s : State) (chars : List UartChar), s.held = false → s.link.rx = .hunt →
    endsInsideRecord (chars.map uartRead) = true → exec (.recordAbandon chars) s = .next (settle s))
  ∧ (∀ (s : State) (bytes : List Byte), s.held = false → s.link.tx = .reply bytes →
    exec .replySent s
      = .next (settle { s with link := { s.link with tx := .idle, replies := s.link.replies.tail } }))
  ∧ (∀ (s : State) (bytes : List Byte), s.held = false → s.link.tx = .notice bytes →
    exec .noticeSent s = .next (settle { s with link := { s.link with tx := .idle } })))

/-- A byte is sent as a start bit, its eight bits least significant first and a stop bit, and read back so, a missing
stop bit being a framing error (R182). The record receiver reads every command record back: of the lead byte, the kind,
the length and the body, sent to a hunting receiver character by character, the last completes that command and none
before it completes a record (R39, R182). -/
def Obligations.CommandRecordsReadBack : Prop :=
  (∀ b : Byte, (uartChar b).getLsbD 0 = false ∧ (∀ i < 8, (uartChar b).getLsbD (i + 1) = b.getLsbD i)
    ∧ (uartChar b).getLsbD 9 = true ∧ uartRead (uartChar b) = { value := b, framing := false })
  ∧ (∀ c : UartChar, (∀ i < 8, (uartRead c).value.getLsbD i = c.getLsbD (i + 1))
    ∧ ((uartRead c).framing = true ↔ c.getLsbD 9 = false))
  ∧ (∀ (rx : RecordRx) (b : LinkByte) (rest : List LinkByte), recordProgress rx [] = some rx
    ∧ recordProgress rx (b :: rest)
      = if (rxStep rx b).2 = none then recordProgress (rxStep rx b).1 rest else none)
  ∧ ∀ c : Command, ∃ (front : List LinkByte) (last : LinkByte) (rx : RecordRx),
    ([0xA5, c.code, byteOf c.body.length] ++ c.body).map (fun b => uartRead (uartChar b)) = front ++ [last]
    ∧ recordProgress .hunt front = some rx
    ∧ rxStep rx last = (.hunt, some (c.code, some c))

/-! ### What every step keeps -/

/-- The state after reset meets every condition that the steps keep. Its straps are the model's own choice (log entry
3): station 0, presenter. -/
def Obligations.ResetStateIsSound : Prop :=
  scoresAddUp State.reset ∧ State.reset.score.standings = standingsOf State.reset ∧ rangesHold State.reset
    ∧ tallyAgrees State.reset ∧ buzzSound State.reset ∧ roundAgrees State.reset ∧ storeSound State.reset
    ∧ queueSound State.reset ∧ rosterSound State.reset ∧ settled State.reset

/-- Every step keeps each team total equal to the sum of the seat totals attached to it, the records in order and the
standings those of the records (R151, R154, R164). -/
def Obligations.EveryStepKeepsTheScoresAddingUp : Prop :=
  ∀ s t : State, scoresAddUp s → s.score.standings = standingsOf s → step s = .next t →
    scoresAddUp t ∧ t.score.standings = standingsOf t

/-- Every step keeps the question timer, the question record, the pass and the two answer collections as the round
state has them (R98, R114, R116, R135). -/
def Obligations.EveryStepKeepsTheRoundInAgreement : Prop :=
  ∀ s t : State, roundAgrees s → step s = .next t → roundAgrees t

/-- Every step keeps the buzz queue sound (R116, R117), the choice tally the count of the poll table (R135, R136), and
the question and the seat records in their ranges (R99, R151). -/
def Obligations.EveryStepKeepsBuzzesPollsAndRanges : Prop :=
  ∀ s t : State, step s = .next t →
    (buzzSound s → buzzSound t) ∧ (tallyAgrees s → tallyAgrees t) ∧ (rangesHold s → rangesHold t)

/-- Every step keeps the receive store in its capacities with the health state of its count (R63, R67, R69 to R72);
the own roster entry and the catch-up record as they must be (R167, R171); and the transmit queue in key order, in its
capacity, below the retry limit and with at most one entry in flight (R41, R43, R50). -/
def Obligations.EveryStepKeepsStoreRosterAndQueueSound : Prop :=
  ∀ s t : State, step s = .next t →
    (storeSound s → storeSound t) ∧ (rosterSound s → rosterSound t) ∧ (queueSound s → queueSound t)

/-- After every step both transmitters have begun whatever they may begin (R9, R10, R43, R183, R188; log entry 27). -/
def Obligations.EveryStepLeavesTheTransmittersSettled : Prop :=
  ∀ s t : State, settled s → step s = .next t → settled t
end

