-- ==== Sys2Proof/Laws/State.lean ====
section
/-! SUPPORT. What each named update of the state leaves in each field: one lemma for each field. -/

namespace Sys2Proof.Machine

variable (s : State)

/-- What holds the part is read from the supply and the RESET pin alone. -/
theorem held_congr {s t : State} (h : t.power = s.power) : t.held = s.held := by
  simp [State.held, h]

@[simp] theorem held_startWith (straps : Straps) (waiting : List Instr) : (startWith straps waiting).held = false := rfl

/-! ### `setScanned` -/

@[simp] theorem setScanned_power (k : BitVec 40) : (setScanned k s).power = s.power := rfl
@[simp] theorem setScanned_straps (k : BitVec 40) : (setScanned k s).straps = s.straps := rfl
@[simp] theorem setScanned_line (k : BitVec 40) : (setScanned k s).line = s.line := rfl
@[simp] theorem setScanned_sched (k : BitVec 40) : (setScanned k s).sched = s.sched := rfl
@[simp] theorem setScanned_store (k : BitVec 40) : (setScanned k s).store = s.store := rfl
@[simp] theorem setScanned_panel (k : BitVec 40) : (setScanned k s).panel = s.panel := rfl
@[simp] theorem setScanned_clock (k : BitVec 40) : (setScanned k s).clock = { s.clock with scanned := k } := rfl
@[simp] theorem setScanned_engine (k : BitVec 40) : (setScanned k s).engine = s.engine := rfl
@[simp] theorem setScanned_buzz (k : BitVec 40) : (setScanned k s).buzz = s.buzz := rfl
@[simp] theorem setScanned_poll (k : BitVec 40) : (setScanned k s).poll = s.poll := rfl
@[simp] theorem setScanned_score (k : BitVec 40) : (setScanned k s).score = s.score := rfl
@[simp] theorem setScanned_roster (k : BitVec 40) : (setScanned k s).roster = s.roster := rfl
@[simp] theorem setScanned_link (k : BitVec 40) : (setScanned k s).link = s.link := rfl
@[simp] theorem setScanned_pending (k : BitVec 40) : (setScanned k s).pending = s.pending := rfl

/-! ### `setQueue` -/

@[simp] theorem setQueue_power (q : List TxEntry) : (setQueue q s).power = s.power := rfl
@[simp] theorem setQueue_straps (q : List TxEntry) : (setQueue q s).straps = s.straps := rfl
@[simp] theorem setQueue_line (q : List TxEntry) : (setQueue q s).line = s.line := rfl
@[simp] theorem setQueue_sched (q : List TxEntry) : (setQueue q s).sched = { s.sched with queue := q } := rfl
@[simp] theorem setQueue_store (q : List TxEntry) : (setQueue q s).store = s.store := rfl
@[simp] theorem setQueue_panel (q : List TxEntry) : (setQueue q s).panel = s.panel := rfl
@[simp] theorem setQueue_clock (q : List TxEntry) : (setQueue q s).clock = s.clock := rfl
@[simp] theorem setQueue_engine (q : List TxEntry) : (setQueue q s).engine = s.engine := rfl
@[simp] theorem setQueue_buzz (q : List TxEntry) : (setQueue q s).buzz = s.buzz := rfl
@[simp] theorem setQueue_poll (q : List TxEntry) : (setQueue q s).poll = s.poll := rfl
@[simp] theorem setQueue_score (q : List TxEntry) : (setQueue q s).score = s.score := rfl
@[simp] theorem setQueue_roster (q : List TxEntry) : (setQueue q s).roster = s.roster := rfl
@[simp] theorem setQueue_link (q : List TxEntry) : (setQueue q s).link = s.link := rfl
@[simp] theorem setQueue_pending (q : List TxEntry) : (setQueue q s).pending = s.pending := rfl

/-! ### `setAnswers` -/

@[simp] theorem setAnswers_power (a : List PendingAnswer) : (setAnswers a s).power = s.power := rfl
@[simp] theorem setAnswers_straps (a : List PendingAnswer) : (setAnswers a s).straps = s.straps := rfl
@[simp] theorem setAnswers_line (a : List PendingAnswer) : (setAnswers a s).line = s.line := rfl
@[simp] theorem setAnswers_sched (a : List PendingAnswer) : (setAnswers a s).sched = { s.sched with answers := a } := rfl
@[simp] theorem setAnswers_store (a : List PendingAnswer) : (setAnswers a s).store = s.store := rfl
@[simp] theorem setAnswers_panel (a : List PendingAnswer) : (setAnswers a s).panel = s.panel := rfl
@[simp] theorem setAnswers_clock (a : List PendingAnswer) : (setAnswers a s).clock = s.clock := rfl
@[simp] theorem setAnswers_engine (a : List PendingAnswer) : (setAnswers a s).engine = s.engine := rfl
@[simp] theorem setAnswers_buzz (a : List PendingAnswer) : (setAnswers a s).buzz = s.buzz := rfl
@[simp] theorem setAnswers_poll (a : List PendingAnswer) : (setAnswers a s).poll = s.poll := rfl
@[simp] theorem setAnswers_score (a : List PendingAnswer) : (setAnswers a s).score = s.score := rfl
@[simp] theorem setAnswers_roster (a : List PendingAnswer) : (setAnswers a s).roster = s.roster := rfl
@[simp] theorem setAnswers_link (a : List PendingAnswer) : (setAnswers a s).link = s.link := rfl
@[simp] theorem setAnswers_pending (a : List PendingAnswer) : (setAnswers a s).pending = s.pending := rfl

/-! ### `setTx` -/

@[simp] theorem setTx_power (tx : TxState) : (setTx tx s).power = s.power := rfl
@[simp] theorem setTx_straps (tx : TxState) : (setTx tx s).straps = s.straps := rfl
@[simp] theorem setTx_line (tx : TxState) : (setTx tx s).line = { s.line with tx := tx } := rfl
@[simp] theorem setTx_sched (tx : TxState) : (setTx tx s).sched = s.sched := rfl
@[simp] theorem setTx_store (tx : TxState) : (setTx tx s).store = s.store := rfl
@[simp] theorem setTx_panel (tx : TxState) : (setTx tx s).panel = s.panel := rfl
@[simp] theorem setTx_clock (tx : TxState) : (setTx tx s).clock = s.clock := rfl
@[simp] theorem setTx_engine (tx : TxState) : (setTx tx s).engine = s.engine := rfl
@[simp] theorem setTx_buzz (tx : TxState) : (setTx tx s).buzz = s.buzz := rfl
@[simp] theorem setTx_poll (tx : TxState) : (setTx tx s).poll = s.poll := rfl
@[simp] theorem setTx_score (tx : TxState) : (setTx tx s).score = s.score := rfl
@[simp] theorem setTx_roster (tx : TxState) : (setTx tx s).roster = s.roster := rfl
@[simp] theorem setTx_link (tx : TxState) : (setTx tx s).link = s.link := rfl
@[simp] theorem setTx_pending (tx : TxState) : (setTx tx s).pending = s.pending := rfl

/-! ### `setRx` -/

@[simp] theorem setRx_power (rx : Receiver) : (setRx rx s).power = s.power := rfl
@[simp] theorem setRx_straps (rx : Receiver) : (setRx rx s).straps = s.straps := rfl
@[simp] theorem setRx_line (rx : Receiver) : (setRx rx s).line = { s.line with rx := rx } := rfl
@[simp] theorem setRx_sched (rx : Receiver) : (setRx rx s).sched = s.sched := rfl
@[simp] theorem setRx_store (rx : Receiver) : (setRx rx s).store = s.store := rfl
@[simp] theorem setRx_panel (rx : Receiver) : (setRx rx s).panel = s.panel := rfl
@[simp] theorem setRx_clock (rx : Receiver) : (setRx rx s).clock = s.clock := rfl
@[simp] theorem setRx_engine (rx : Receiver) : (setRx rx s).engine = s.engine := rfl
@[simp] theorem setRx_buzz (rx : Receiver) : (setRx rx s).buzz = s.buzz := rfl
@[simp] theorem setRx_poll (rx : Receiver) : (setRx rx s).poll = s.poll := rfl
@[simp] theorem setRx_score (rx : Receiver) : (setRx rx s).score = s.score := rfl
@[simp] theorem setRx_roster (rx : Receiver) : (setRx rx s).roster = s.roster := rfl
@[simp] theorem setRx_link (rx : Receiver) : (setRx rx s).link = s.link := rfl
@[simp] theorem setRx_pending (rx : Receiver) : (setRx rx s).pending = s.pending := rfl

/-! ### `dropBody` -/

@[simp] theorem dropBody_power : (dropBody s).power = s.power := rfl
@[simp] theorem dropBody_straps : (dropBody s).straps = s.straps := rfl
@[simp] theorem dropBody_line : (dropBody s).line = { s.line with frame := [], sent := 0 } := rfl
@[simp] theorem dropBody_sched : (dropBody s).sched = s.sched := rfl
@[simp] theorem dropBody_store : (dropBody s).store = s.store := rfl
@[simp] theorem dropBody_panel : (dropBody s).panel = s.panel := rfl
@[simp] theorem dropBody_clock : (dropBody s).clock = s.clock := rfl
@[simp] theorem dropBody_engine : (dropBody s).engine = s.engine := rfl
@[simp] theorem dropBody_buzz : (dropBody s).buzz = s.buzz := rfl
@[simp] theorem dropBody_poll : (dropBody s).poll = s.poll := rfl
@[simp] theorem dropBody_score : (dropBody s).score = s.score := rfl
@[simp] theorem dropBody_roster : (dropBody s).roster = s.roster := rfl
@[simp] theorem dropBody_link : (dropBody s).link = s.link := rfl
@[simp] theorem dropBody_pending : (dropBody s).pending = s.pending := rfl

/-! ### `silence` -/

@[simp] theorem silence_power : (silence s).power = s.power := rfl
@[simp] theorem silence_straps : (silence s).straps = s.straps := rfl
@[simp] theorem silence_line : (silence s).line = { s.line with tx := .silent, rx := stopDriving s.line.rx } := rfl
@[simp] theorem silence_sched : (silence s).sched = s.sched := rfl
@[simp] theorem silence_store : (silence s).store = s.store := rfl
@[simp] theorem silence_panel : (silence s).panel = s.panel := rfl
@[simp] theorem silence_clock : (silence s).clock = s.clock := rfl
@[simp] theorem silence_engine : (silence s).engine = s.engine := rfl
@[simp] theorem silence_buzz : (silence s).buzz = s.buzz := rfl
@[simp] theorem silence_poll : (silence s).poll = s.poll := rfl
@[simp] theorem silence_score : (silence s).score = s.score := rfl
@[simp] theorem silence_roster : (silence s).roster = s.roster := rfl
@[simp] theorem silence_link : (silence s).link = s.link := rfl
@[simp] theorem silence_pending : (silence s).pending = s.pending := rfl

/-! ### `abandonHunt` -/

@[simp] theorem abandonHunt_power : (abandonHunt s).power = s.power := rfl
@[simp] theorem abandonHunt_straps : (abandonHunt s).straps = s.straps := rfl
@[simp] theorem abandonHunt_line : (abandonHunt s).line = { s.line with rx := .waitIdle, disturbed := false } := rfl
@[simp] theorem abandonHunt_sched : (abandonHunt s).sched = s.sched := rfl
@[simp] theorem abandonHunt_store : (abandonHunt s).store = s.store := rfl
@[simp] theorem abandonHunt_panel : (abandonHunt s).panel = s.panel := rfl
@[simp] theorem abandonHunt_clock : (abandonHunt s).clock = s.clock := rfl
@[simp] theorem abandonHunt_engine : (abandonHunt s).engine = s.engine := rfl
@[simp] theorem abandonHunt_buzz : (abandonHunt s).buzz = s.buzz := rfl
@[simp] theorem abandonHunt_poll : (abandonHunt s).poll = s.poll := rfl
@[simp] theorem abandonHunt_score : (abandonHunt s).score = s.score := rfl
@[simp] theorem abandonHunt_roster : (abandonHunt s).roster = s.roster := rfl
@[simp] theorem abandonHunt_link : (abandonHunt s).link = s.link := rfl
@[simp] theorem abandonHunt_pending : (abandonHunt s).pending = s.pending := rfl

/-! ### `startPulse` -/

@[simp] theorem startPulse_power : (startPulse s).power = s.power := rfl
@[simp] theorem startPulse_straps : (startPulse s).straps = s.straps := rfl
@[simp] theorem startPulse_line : (startPulse s).line = { s.line with
      tx := .clear, level := pulseLevel s.line.level, idleSince := none, rx := stopMarking s.line.rx } := rfl
@[simp] theorem startPulse_sched : (startPulse s).sched = s.sched := rfl
@[simp] theorem startPulse_store : (startPulse s).store = s.store := rfl
@[simp] theorem startPulse_panel : (startPulse s).panel = s.panel := rfl
@[simp] theorem startPulse_clock : (startPulse s).clock = s.clock := rfl
@[simp] theorem startPulse_engine : (startPulse s).engine = s.engine := rfl
@[simp] theorem startPulse_buzz : (startPulse s).buzz = s.buzz := rfl
@[simp] theorem startPulse_poll : (startPulse s).poll = s.poll := rfl
@[simp] theorem startPulse_score : (startPulse s).score = s.score := rfl
@[simp] theorem startPulse_roster : (startPulse s).roster = s.roster := rfl
@[simp] theorem startPulse_link : (startPulse s).link = s.link := rfl
@[simp] theorem startPulse_pending : (startPulse s).pending = s.pending := rfl

/-! ### `raise` -/

@[simp] theorem raise_power (n : Notice) : (raise n s).power = s.power := rfl
@[simp] theorem raise_straps (n : Notice) : (raise n s).straps = s.straps := rfl
@[simp] theorem raise_line (n : Notice) : (raise n s).line = s.line := rfl
@[simp] theorem raise_sched (n : Notice) : (raise n s).sched = s.sched := rfl
@[simp] theorem raise_store (n : Notice) : (raise n s).store = s.store := rfl
@[simp] theorem raise_panel (n : Notice) : (raise n s).panel = s.panel := rfl
@[simp] theorem raise_clock (n : Notice) : (raise n s).clock = s.clock := rfl
@[simp] theorem raise_engine (n : Notice) : (raise n s).engine = s.engine := rfl
@[simp] theorem raise_buzz (n : Notice) : (raise n s).buzz = s.buzz := rfl
@[simp] theorem raise_poll (n : Notice) : (raise n s).poll = s.poll := rfl
@[simp] theorem raise_score (n : Notice) : (raise n s).score = s.score := rfl
@[simp] theorem raise_roster (n : Notice) : (raise n s).roster = s.roster := rfl
@[simp] theorem raise_link (n : Notice) : (raise n s).link = { s.link with raised := s.link.raised ||| BitVec.twoPow 7 (noticeBit n) } := rfl
@[simp] theorem raise_pending (n : Notice) : (raise n s).pending = s.pending := rfl

/-! ### `setRecordRx` -/

@[simp] theorem setRecordRx_power (rx : RecordRx) : (setRecordRx rx s).power = s.power := rfl
@[simp] theorem setRecordRx_straps (rx : RecordRx) : (setRecordRx rx s).straps = s.straps := rfl
@[simp] theorem setRecordRx_line (rx : RecordRx) : (setRecordRx rx s).line = s.line := rfl
@[simp] theorem setRecordRx_sched (rx : RecordRx) : (setRecordRx rx s).sched = s.sched := rfl
@[simp] theorem setRecordRx_store (rx : RecordRx) : (setRecordRx rx s).store = s.store := rfl
@[simp] theorem setRecordRx_panel (rx : RecordRx) : (setRecordRx rx s).panel = s.panel := rfl
@[simp] theorem setRecordRx_clock (rx : RecordRx) : (setRecordRx rx s).clock = s.clock := rfl
@[simp] theorem setRecordRx_engine (rx : RecordRx) : (setRecordRx rx s).engine = s.engine := rfl
@[simp] theorem setRecordRx_buzz (rx : RecordRx) : (setRecordRx rx s).buzz = s.buzz := rfl
@[simp] theorem setRecordRx_poll (rx : RecordRx) : (setRecordRx rx s).poll = s.poll := rfl
@[simp] theorem setRecordRx_score (rx : RecordRx) : (setRecordRx rx s).score = s.score := rfl
@[simp] theorem setRecordRx_roster (rx : RecordRx) : (setRecordRx rx s).roster = s.roster := rfl
@[simp] theorem setRecordRx_link (rx : RecordRx) : (setRecordRx rx s).link = { s.link with rx := rx } := rfl
@[simp] theorem setRecordRx_pending (rx : RecordRx) : (setRecordRx rx s).pending = s.pending := rfl

/-! ### `loseRecord` -/

@[simp] theorem loseRecord_power : (loseRecord s).power = s.power := rfl
@[simp] theorem loseRecord_straps : (loseRecord s).straps = s.straps := rfl
@[simp] theorem loseRecord_line : (loseRecord s).line = s.line := rfl
@[simp] theorem loseRecord_sched : (loseRecord s).sched = s.sched := rfl
@[simp] theorem loseRecord_store : (loseRecord s).store = s.store := rfl
@[simp] theorem loseRecord_panel : (loseRecord s).panel = s.panel := rfl
@[simp] theorem loseRecord_clock : (loseRecord s).clock = s.clock := rfl
@[simp] theorem loseRecord_engine : (loseRecord s).engine = s.engine := rfl
@[simp] theorem loseRecord_buzz : (loseRecord s).buzz = s.buzz := rfl
@[simp] theorem loseRecord_poll : (loseRecord s).poll = s.poll := rfl
@[simp] theorem loseRecord_score : (loseRecord s).score = s.score := rfl
@[simp] theorem loseRecord_roster : (loseRecord s).roster = s.roster := rfl
@[simp] theorem loseRecord_link : (loseRecord s).link = { s.link with overrun := true } := rfl
@[simp] theorem loseRecord_pending : (loseRecord s).pending = s.pending := rfl

/-! ### `setMask` -/

@[simp] theorem setMask_power (m : BitVec 7) : (setMask m s).power = s.power := rfl
@[simp] theorem setMask_straps (m : BitVec 7) : (setMask m s).straps = s.straps := rfl
@[simp] theorem setMask_line (m : BitVec 7) : (setMask m s).line = s.line := rfl
@[simp] theorem setMask_sched (m : BitVec 7) : (setMask m s).sched = s.sched := rfl
@[simp] theorem setMask_store (m : BitVec 7) : (setMask m s).store = s.store := rfl
@[simp] theorem setMask_panel (m : BitVec 7) : (setMask m s).panel = s.panel := rfl
@[simp] theorem setMask_clock (m : BitVec 7) : (setMask m s).clock = s.clock := rfl
@[simp] theorem setMask_engine (m : BitVec 7) : (setMask m s).engine = s.engine := rfl
@[simp] theorem setMask_buzz (m : BitVec 7) : (setMask m s).buzz = s.buzz := rfl
@[simp] theorem setMask_poll (m : BitVec 7) : (setMask m s).poll = s.poll := rfl
@[simp] theorem setMask_score (m : BitVec 7) : (setMask m s).score = s.score := rfl
@[simp] theorem setMask_roster (m : BitVec 7) : (setMask m s).roster = s.roster := rfl
@[simp] theorem setMask_link (m : BitVec 7) : (setMask m s).link = { s.link with mask := m, raised := s.link.raised &&& ~~~(s.link.mask &&& ~~~m) } := rfl
@[simp] theorem setMask_pending (m : BitVec 7) : (setMask m s).pending = s.pending := rfl

/-! ### `raiseFault` -/

@[simp] theorem raiseFault_power (why : FaultReason) : (raiseFault why s).power = s.power := rfl
@[simp] theorem raiseFault_straps (why : FaultReason) : (raiseFault why s).straps = s.straps := rfl
@[simp] theorem raiseFault_line (why : FaultReason) : (raiseFault why s).line = s.line := rfl
@[simp] theorem raiseFault_sched (why : FaultReason) : (raiseFault why s).sched = s.sched := rfl
@[simp] theorem raiseFault_store (why : FaultReason) : (raiseFault why s).store = s.store := rfl
@[simp] theorem raiseFault_panel (why : FaultReason) : (raiseFault why s).panel = s.panel := rfl
@[simp] theorem raiseFault_clock (why : FaultReason) : (raiseFault why s).clock = s.clock := rfl
@[simp] theorem raiseFault_engine (why : FaultReason) : (raiseFault why s).engine = s.engine := rfl
@[simp] theorem raiseFault_buzz (why : FaultReason) : (raiseFault why s).buzz = s.buzz := rfl
@[simp] theorem raiseFault_poll (why : FaultReason) : (raiseFault why s).poll = s.poll := rfl
@[simp] theorem raiseFault_score (why : FaultReason) : (raiseFault why s).score = s.score := rfl
@[simp] theorem raiseFault_roster (why : FaultReason) : (raiseFault why s).roster = s.roster := rfl
@[simp] theorem raiseFault_link (why : FaultReason) : (raiseFault why s).link = { s.link with
      raised := s.link.raised ||| BitVec.twoPow 7 (noticeBit .fault), faultReason := some why } := rfl
@[simp] theorem raiseFault_pending (why : FaultReason) : (raiseFault why s).pending = s.pending := rfl

/-! ### `refuseFrame` -/

@[simp] theorem refuseFrame_power (f : RxEntry) (why : Reason) : (refuseFrame f why s).power = s.power := rfl
@[simp] theorem refuseFrame_straps (f : RxEntry) (why : Reason) : (refuseFrame f why s).straps = s.straps := rfl
@[simp] theorem refuseFrame_line (f : RxEntry) (why : Reason) : (refuseFrame f why s).line = s.line := rfl
@[simp] theorem refuseFrame_sched (f : RxEntry) (why : Reason) : (refuseFrame f why s).sched = s.sched := rfl
@[simp] theorem refuseFrame_store (f : RxEntry) (why : Reason) : (refuseFrame f why s).store = s.store := rfl
@[simp] theorem refuseFrame_panel (f : RxEntry) (why : Reason) : (refuseFrame f why s).panel = s.panel := rfl
@[simp] theorem refuseFrame_clock (f : RxEntry) (why : Reason) : (refuseFrame f why s).clock = s.clock := rfl
@[simp] theorem refuseFrame_engine (f : RxEntry) (why : Reason) : (refuseFrame f why s).engine = { s.engine with refusal := { kind := some f.kind, reason := some why, key := f.key } } := rfl
@[simp] theorem refuseFrame_buzz (f : RxEntry) (why : Reason) : (refuseFrame f why s).buzz = s.buzz := rfl
@[simp] theorem refuseFrame_poll (f : RxEntry) (why : Reason) : (refuseFrame f why s).poll = s.poll := rfl
@[simp] theorem refuseFrame_score (f : RxEntry) (why : Reason) : (refuseFrame f why s).score = s.score := rfl
@[simp] theorem refuseFrame_roster (f : RxEntry) (why : Reason) : (refuseFrame f why s).roster = s.roster := rfl
@[simp] theorem refuseFrame_link (f : RxEntry) (why : Reason) : (refuseFrame f why s).link = s.link := rfl
@[simp] theorem refuseFrame_pending (f : RxEntry) (why : Reason) : (refuseFrame f why s).pending = s.pending := rfl

/-! ### `setEngine` -/

@[simp] theorem setEngine_power (g : Engine → Engine) : (setEngine g s).power = s.power := rfl
@[simp] theorem setEngine_straps (g : Engine → Engine) : (setEngine g s).straps = s.straps := rfl
@[simp] theorem setEngine_line (g : Engine → Engine) : (setEngine g s).line = s.line := rfl
@[simp] theorem setEngine_sched (g : Engine → Engine) : (setEngine g s).sched = s.sched := rfl
@[simp] theorem setEngine_store (g : Engine → Engine) : (setEngine g s).store = s.store := rfl
@[simp] theorem setEngine_panel (g : Engine → Engine) : (setEngine g s).panel = s.panel := rfl
@[simp] theorem setEngine_clock (g : Engine → Engine) : (setEngine g s).clock = s.clock := rfl
@[simp] theorem setEngine_engine (g : Engine → Engine) : (setEngine g s).engine = g s.engine := rfl
@[simp] theorem setEngine_buzz (g : Engine → Engine) : (setEngine g s).buzz = s.buzz := rfl
@[simp] theorem setEngine_poll (g : Engine → Engine) : (setEngine g s).poll = s.poll := rfl
@[simp] theorem setEngine_score (g : Engine → Engine) : (setEngine g s).score = s.score := rfl
@[simp] theorem setEngine_roster (g : Engine → Engine) : (setEngine g s).roster = s.roster := rfl
@[simp] theorem setEngine_link (g : Engine → Engine) : (setEngine g s).link = s.link := rfl
@[simp] theorem setEngine_pending (g : Engine → Engine) : (setEngine g s).pending = s.pending := rfl

/-! ### `recordFault` -/

@[simp] theorem recordFault_power (c : Cause) (p : Nat) (k : Key) : (recordFault c p k s).power = s.power := rfl
@[simp] theorem recordFault_straps (c : Cause) (p : Nat) (k : Key) : (recordFault c p k s).straps = s.straps := rfl
@[simp] theorem recordFault_line (c : Cause) (p : Nat) (k : Key) : (recordFault c p k s).line = s.line := rfl
@[simp] theorem recordFault_sched (c : Cause) (p : Nat) (k : Key) : (recordFault c p k s).sched = s.sched := rfl
@[simp] theorem recordFault_store (c : Cause) (p : Nat) (k : Key) : (recordFault c p k s).store = { s.store with lastFault := { cause := some c, position := p, key := k } } := rfl
@[simp] theorem recordFault_panel (c : Cause) (p : Nat) (k : Key) : (recordFault c p k s).panel = s.panel := rfl
@[simp] theorem recordFault_clock (c : Cause) (p : Nat) (k : Key) : (recordFault c p k s).clock = s.clock := rfl
@[simp] theorem recordFault_engine (c : Cause) (p : Nat) (k : Key) : (recordFault c p k s).engine = s.engine := rfl
@[simp] theorem recordFault_buzz (c : Cause) (p : Nat) (k : Key) : (recordFault c p k s).buzz = s.buzz := rfl
@[simp] theorem recordFault_poll (c : Cause) (p : Nat) (k : Key) : (recordFault c p k s).poll = s.poll := rfl
@[simp] theorem recordFault_score (c : Cause) (p : Nat) (k : Key) : (recordFault c p k s).score = s.score := rfl
@[simp] theorem recordFault_roster (c : Cause) (p : Nat) (k : Key) : (recordFault c p k s).roster = s.roster := rfl
@[simp] theorem recordFault_link (c : Cause) (p : Nat) (k : Key) : (recordFault c p k s).link = s.link := rfl
@[simp] theorem recordFault_pending (c : Cause) (p : Nat) (k : Key) : (recordFault c p k s).pending = s.pending := rfl

/-! ### `clearAdrift` -/

@[simp] theorem clearAdrift_power : (clearAdrift s).power = s.power := rfl
@[simp] theorem clearAdrift_straps : (clearAdrift s).straps = s.straps := rfl
@[simp] theorem clearAdrift_line : (clearAdrift s).line = s.line := rfl
@[simp] theorem clearAdrift_sched : (clearAdrift s).sched = s.sched := rfl
@[simp] theorem clearAdrift_store : (clearAdrift s).store = { s.store with adrift := false } := rfl
@[simp] theorem clearAdrift_panel : (clearAdrift s).panel = s.panel := rfl
@[simp] theorem clearAdrift_clock : (clearAdrift s).clock = s.clock := rfl
@[simp] theorem clearAdrift_engine : (clearAdrift s).engine = s.engine := rfl
@[simp] theorem clearAdrift_buzz : (clearAdrift s).buzz = s.buzz := rfl
@[simp] theorem clearAdrift_poll : (clearAdrift s).poll = s.poll := rfl
@[simp] theorem clearAdrift_score : (clearAdrift s).score = s.score := rfl
@[simp] theorem clearAdrift_roster : (clearAdrift s).roster = s.roster := rfl
@[simp] theorem clearAdrift_link : (clearAdrift s).link = s.link := rfl
@[simp] theorem clearAdrift_pending : (clearAdrift s).pending = s.pending := rfl

/-! ### `releaseFront` -/

@[simp] theorem releaseFront_power : (releaseFront s).power = s.power := rfl
@[simp] theorem releaseFront_straps : (releaseFront s).straps = s.straps := rfl
@[simp] theorem releaseFront_line : (releaseFront s).line = s.line := rfl
@[simp] theorem releaseFront_sched : (releaseFront s).sched = s.sched := rfl
@[simp] theorem releaseFront_store : (releaseFront s).store = { s.store with queue := s.store.queue.tail } := rfl
@[simp] theorem releaseFront_panel : (releaseFront s).panel = s.panel := rfl
@[simp] theorem releaseFront_clock : (releaseFront s).clock = s.clock := rfl
@[simp] theorem releaseFront_engine : (releaseFront s).engine = s.engine := rfl
@[simp] theorem releaseFront_buzz : (releaseFront s).buzz = s.buzz := rfl
@[simp] theorem releaseFront_poll : (releaseFront s).poll = s.poll := rfl
@[simp] theorem releaseFront_score : (releaseFront s).score = s.score := rfl
@[simp] theorem releaseFront_roster : (releaseFront s).roster = s.roster := rfl
@[simp] theorem releaseFront_link : (releaseFront s).link = s.link := rfl
@[simp] theorem releaseFront_pending : (releaseFront s).pending = s.pending := rfl

/-! ### `fillClaim` -/

@[simp] theorem fillClaim_power (marks : List Byte) (cut : Bool) : (fillClaim marks cut s).power = s.power := rfl
@[simp] theorem fillClaim_straps (marks : List Byte) (cut : Bool) : (fillClaim marks cut s).straps = s.straps := rfl
@[simp] theorem fillClaim_line (marks : List Byte) (cut : Bool) : (fillClaim marks cut s).line = s.line := rfl
@[simp] theorem fillClaim_sched (marks : List Byte) (cut : Bool) : (fillClaim marks cut s).sched = s.sched := rfl
@[simp] theorem fillClaim_store (marks : List Byte) (cut : Bool) : (fillClaim marks cut s).store = { s.store with queue := s.store.queue.map fun f =>
      if f.claimed then { f with marks := marks, tailCut := cut, claimed := false } else f } := rfl
@[simp] theorem fillClaim_panel (marks : List Byte) (cut : Bool) : (fillClaim marks cut s).panel = s.panel := rfl
@[simp] theorem fillClaim_clock (marks : List Byte) (cut : Bool) : (fillClaim marks cut s).clock = s.clock := rfl
@[simp] theorem fillClaim_engine (marks : List Byte) (cut : Bool) : (fillClaim marks cut s).engine = s.engine := rfl
@[simp] theorem fillClaim_buzz (marks : List Byte) (cut : Bool) : (fillClaim marks cut s).buzz = s.buzz := rfl
@[simp] theorem fillClaim_poll (marks : List Byte) (cut : Bool) : (fillClaim marks cut s).poll = s.poll := rfl
@[simp] theorem fillClaim_score (marks : List Byte) (cut : Bool) : (fillClaim marks cut s).score = s.score := rfl
@[simp] theorem fillClaim_roster (marks : List Byte) (cut : Bool) : (fillClaim marks cut s).roster = s.roster := rfl
@[simp] theorem fillClaim_link (marks : List Byte) (cut : Bool) : (fillClaim marks cut s).link = s.link := rfl
@[simp] theorem fillClaim_pending (marks : List Byte) (cut : Bool) : (fillClaim marks cut s).pending = s.pending := rfl

/-! ### `setTimer` -/

@[simp] theorem setTimer_power (t : Timer) : (setTimer t s).power = s.power := rfl
@[simp] theorem setTimer_straps (t : Timer) : (setTimer t s).straps = s.straps := rfl
@[simp] theorem setTimer_line (t : Timer) : (setTimer t s).line = s.line := rfl
@[simp] theorem setTimer_sched (t : Timer) : (setTimer t s).sched = s.sched := rfl
@[simp] theorem setTimer_store (t : Timer) : (setTimer t s).store = s.store := rfl
@[simp] theorem setTimer_panel (t : Timer) : (setTimer t s).panel = s.panel := rfl
@[simp] theorem setTimer_clock (t : Timer) : (setTimer t s).clock = { s.clock with timer := t } := rfl
@[simp] theorem setTimer_engine (t : Timer) : (setTimer t s).engine = s.engine := rfl
@[simp] theorem setTimer_buzz (t : Timer) : (setTimer t s).buzz = s.buzz := rfl
@[simp] theorem setTimer_poll (t : Timer) : (setTimer t s).poll = s.poll := rfl
@[simp] theorem setTimer_score (t : Timer) : (setTimer t s).score = s.score := rfl
@[simp] theorem setTimer_roster (t : Timer) : (setTimer t s).roster = s.roster := rfl
@[simp] theorem setTimer_link (t : Timer) : (setTimer t s).link = s.link := rfl
@[simp] theorem setTimer_pending (t : Timer) : (setTimer t s).pending = s.pending := rfl

/-! ### `clearTimer` -/

@[simp] theorem clearTimer_power : (clearTimer s).power = s.power := rfl
@[simp] theorem clearTimer_straps : (clearTimer s).straps = s.straps := rfl
@[simp] theorem clearTimer_line : (clearTimer s).line = s.line := rfl
@[simp] theorem clearTimer_sched : (clearTimer s).sched = s.sched := rfl
@[simp] theorem clearTimer_store : (clearTimer s).store = s.store := rfl
@[simp] theorem clearTimer_panel : (clearTimer s).panel = s.panel := rfl
@[simp] theorem clearTimer_clock : (clearTimer s).clock = { s.clock with timer := timerStart } := rfl
@[simp] theorem clearTimer_engine : (clearTimer s).engine = s.engine := rfl
@[simp] theorem clearTimer_buzz : (clearTimer s).buzz = s.buzz := rfl
@[simp] theorem clearTimer_poll : (clearTimer s).poll = s.poll := rfl
@[simp] theorem clearTimer_score : (clearTimer s).score = s.score := rfl
@[simp] theorem clearTimer_roster : (clearTimer s).roster = s.roster := rfl
@[simp] theorem clearTimer_link : (clearTimer s).link = s.link := rfl
@[simp] theorem clearTimer_pending : (clearTimer s).pending = s.pending := rfl

/-! ### `tickClock` -/

@[simp] theorem tickClock_power : (tickClock s).power = s.power := rfl
@[simp] theorem tickClock_straps : (tickClock s).straps = s.straps := rfl
@[simp] theorem tickClock_line : (tickClock s).line = s.line := rfl
@[simp] theorem tickClock_sched : (tickClock s).sched = s.sched := rfl
@[simp] theorem tickClock_store : (tickClock s).store = s.store := rfl
@[simp] theorem tickClock_panel : (tickClock s).panel = s.panel := rfl
@[simp] theorem tickClock_clock : (tickClock s).clock = { s.clock with now := s.clock.now + 1, scanned := 0 } := rfl
@[simp] theorem tickClock_engine : (tickClock s).engine = s.engine := rfl
@[simp] theorem tickClock_buzz : (tickClock s).buzz = s.buzz := rfl
@[simp] theorem tickClock_poll : (tickClock s).poll = s.poll := rfl
@[simp] theorem tickClock_score : (tickClock s).score = s.score := rfl
@[simp] theorem tickClock_roster : (tickClock s).roster = s.roster := rfl
@[simp] theorem tickClock_link : (tickClock s).link = s.link := rfl
@[simp] theorem tickClock_pending : (tickClock s).pending = s.pending := rfl

/-! ### `updateSeat` -/

@[simp] theorem updateSeat_power (i : Seat) (g : SeatState → SeatState) : (updateSeat i g s).power = s.power := rfl
@[simp] theorem updateSeat_straps (i : Seat) (g : SeatState → SeatState) : (updateSeat i g s).straps = s.straps := rfl
@[simp] theorem updateSeat_line (i : Seat) (g : SeatState → SeatState) : (updateSeat i g s).line = s.line := rfl
@[simp] theorem updateSeat_sched (i : Seat) (g : SeatState → SeatState) : (updateSeat i g s).sched = s.sched := rfl
@[simp] theorem updateSeat_store (i : Seat) (g : SeatState → SeatState) : (updateSeat i g s).store = s.store := rfl
@[simp] theorem updateSeat_panel (i : Seat) (g : SeatState → SeatState) : (updateSeat i g s).panel = { s.panel with seats := putAt s.panel.seats i (g s.panel.seats[i]) } := rfl
@[simp] theorem updateSeat_clock (i : Seat) (g : SeatState → SeatState) : (updateSeat i g s).clock = s.clock := rfl
@[simp] theorem updateSeat_engine (i : Seat) (g : SeatState → SeatState) : (updateSeat i g s).engine = s.engine := rfl
@[simp] theorem updateSeat_buzz (i : Seat) (g : SeatState → SeatState) : (updateSeat i g s).buzz = s.buzz := rfl
@[simp] theorem updateSeat_poll (i : Seat) (g : SeatState → SeatState) : (updateSeat i g s).poll = s.poll := rfl
@[simp] theorem updateSeat_score (i : Seat) (g : SeatState → SeatState) : (updateSeat i g s).score = s.score := rfl
@[simp] theorem updateSeat_roster (i : Seat) (g : SeatState → SeatState) : (updateSeat i g s).roster = s.roster := rfl
@[simp] theorem updateSeat_link (i : Seat) (g : SeatState → SeatState) : (updateSeat i g s).link = s.link := rfl
@[simp] theorem updateSeat_pending (i : Seat) (g : SeatState → SeatState) : (updateSeat i g s).pending = s.pending := rfl

/-! ### `updateSeats` -/

@[simp] theorem updateSeats_power (g : SeatState → SeatState) : (updateSeats g s).power = s.power := rfl
@[simp] theorem updateSeats_straps (g : SeatState → SeatState) : (updateSeats g s).straps = s.straps := rfl
@[simp] theorem updateSeats_line (g : SeatState → SeatState) : (updateSeats g s).line = s.line := rfl
@[simp] theorem updateSeats_sched (g : SeatState → SeatState) : (updateSeats g s).sched = s.sched := rfl
@[simp] theorem updateSeats_store (g : SeatState → SeatState) : (updateSeats g s).store = s.store := rfl
@[simp] theorem updateSeats_panel (g : SeatState → SeatState) : (updateSeats g s).panel = { s.panel with seats := onEach g s.panel.seats } := rfl
@[simp] theorem updateSeats_clock (g : SeatState → SeatState) : (updateSeats g s).clock = s.clock := rfl
@[simp] theorem updateSeats_engine (g : SeatState → SeatState) : (updateSeats g s).engine = s.engine := rfl
@[simp] theorem updateSeats_buzz (g : SeatState → SeatState) : (updateSeats g s).buzz = s.buzz := rfl
@[simp] theorem updateSeats_poll (g : SeatState → SeatState) : (updateSeats g s).poll = s.poll := rfl
@[simp] theorem updateSeats_score (g : SeatState → SeatState) : (updateSeats g s).score = s.score := rfl
@[simp] theorem updateSeats_roster (g : SeatState → SeatState) : (updateSeats g s).roster = s.roster := rfl
@[simp] theorem updateSeats_link (g : SeatState → SeatState) : (updateSeats g s).link = s.link := rfl
@[simp] theorem updateSeats_pending (g : SeatState → SeatState) : (updateSeats g s).pending = s.pending := rfl

/-! ### `clearSeats` -/

@[simp] theorem clearSeats_power : (clearSeats s).power = s.power := rfl
@[simp] theorem clearSeats_straps : (clearSeats s).straps = s.straps := rfl
@[simp] theorem clearSeats_line : (clearSeats s).line = s.line := rfl
@[simp] theorem clearSeats_sched : (clearSeats s).sched = s.sched := rfl
@[simp] theorem clearSeats_store : (clearSeats s).store = s.store := rfl
@[simp] theorem clearSeats_panel : (clearSeats s).panel =
    Panel.mk (onEach (fun p => { p with buzzed := false, chosen := none, correct := false }) s.panel.seats) none := rfl
@[simp] theorem clearSeats_clock : (clearSeats s).clock = s.clock := rfl
@[simp] theorem clearSeats_engine : (clearSeats s).engine = s.engine := rfl
@[simp] theorem clearSeats_buzz : (clearSeats s).buzz = s.buzz := rfl
@[simp] theorem clearSeats_poll : (clearSeats s).poll = s.poll := rfl
@[simp] theorem clearSeats_score : (clearSeats s).score = s.score := rfl
@[simp] theorem clearSeats_roster : (clearSeats s).roster = s.roster := rfl
@[simp] theorem clearSeats_link : (clearSeats s).link = s.link := rfl
@[simp] theorem clearSeats_pending : (clearSeats s).pending = s.pending := rfl

/-! ### `emptyLockouts` -/

@[simp] theorem emptyLockouts_power : (emptyLockouts s).power = s.power := rfl
@[simp] theorem emptyLockouts_straps : (emptyLockouts s).straps = s.straps := rfl
@[simp] theorem emptyLockouts_line : (emptyLockouts s).line = s.line := rfl
@[simp] theorem emptyLockouts_sched : (emptyLockouts s).sched = s.sched := rfl
@[simp] theorem emptyLockouts_store : (emptyLockouts s).store = s.store := rfl
@[simp] theorem emptyLockouts_panel : (emptyLockouts s).panel = s.panel := rfl
@[simp] theorem emptyLockouts_clock : (emptyLockouts s).clock = s.clock := rfl
@[simp] theorem emptyLockouts_engine : (emptyLockouts s).engine = s.engine := rfl
@[simp] theorem emptyLockouts_buzz : (emptyLockouts s).buzz = { s.buzz with lockouts := [] } := rfl
@[simp] theorem emptyLockouts_poll : (emptyLockouts s).poll = s.poll := rfl
@[simp] theorem emptyLockouts_score : (emptyLockouts s).score = s.score := rfl
@[simp] theorem emptyLockouts_roster : (emptyLockouts s).roster = s.roster := rfl
@[simp] theorem emptyLockouts_link : (emptyLockouts s).link = s.link := rfl
@[simp] theorem emptyLockouts_pending : (emptyLockouts s).pending = s.pending := rfl

/-! ### `addLockout` -/

@[simp] theorem addLockout_power (u : LockUnit) : (addLockout u s).power = s.power := rfl
@[simp] theorem addLockout_straps (u : LockUnit) : (addLockout u s).straps = s.straps := rfl
@[simp] theorem addLockout_line (u : LockUnit) : (addLockout u s).line = s.line := rfl
@[simp] theorem addLockout_sched (u : LockUnit) : (addLockout u s).sched = s.sched := rfl
@[simp] theorem addLockout_store (u : LockUnit) : (addLockout u s).store = s.store := rfl
@[simp] theorem addLockout_panel (u : LockUnit) : (addLockout u s).panel = s.panel := rfl
@[simp] theorem addLockout_clock (u : LockUnit) : (addLockout u s).clock = s.clock := rfl
@[simp] theorem addLockout_engine (u : LockUnit) : (addLockout u s).engine = s.engine := rfl
@[simp] theorem addLockout_buzz (u : LockUnit) : (addLockout u s).buzz = { s.buzz with
      lockouts := if u ∈ s.buzz.lockouts then s.buzz.lockouts else s.buzz.lockouts ++ [u] } := rfl
@[simp] theorem addLockout_poll (u : LockUnit) : (addLockout u s).poll = s.poll := rfl
@[simp] theorem addLockout_score (u : LockUnit) : (addLockout u s).score = s.score := rfl
@[simp] theorem addLockout_roster (u : LockUnit) : (addLockout u s).roster = s.roster := rfl
@[simp] theorem addLockout_link (u : LockUnit) : (addLockout u s).link = s.link := rfl
@[simp] theorem addLockout_pending (u : LockUnit) : (addLockout u s).pending = s.pending := rfl

/-! ### `changeBuzz` -/

@[simp] theorem changeBuzz_power (q : List BuzzEntry) : (changeBuzz q s).power = s.power := rfl
@[simp] theorem changeBuzz_straps (q : List BuzzEntry) : (changeBuzz q s).straps = s.straps := rfl
@[simp] theorem changeBuzz_line (q : List BuzzEntry) : (changeBuzz q s).line = s.line := rfl
@[simp] theorem changeBuzz_sched (q : List BuzzEntry) : (changeBuzz q s).sched = s.sched := rfl
@[simp] theorem changeBuzz_store (q : List BuzzEntry) : (changeBuzz q s).store = s.store := rfl
@[simp] theorem changeBuzz_panel (q : List BuzzEntry) : (changeBuzz q s).panel = s.panel := rfl
@[simp] theorem changeBuzz_clock (q : List BuzzEntry) : (changeBuzz q s).clock = s.clock := rfl
@[simp] theorem changeBuzz_engine (q : List BuzzEntry) : (changeBuzz q s).engine = s.engine := rfl
@[simp] theorem changeBuzz_buzz (q : List BuzzEntry) : (changeBuzz q s).buzz = { s.buzz with queue := q } := rfl
@[simp] theorem changeBuzz_poll (q : List BuzzEntry) : (changeBuzz q s).poll = s.poll := rfl
@[simp] theorem changeBuzz_score (q : List BuzzEntry) : (changeBuzz q s).score = s.score := rfl
@[simp] theorem changeBuzz_roster (q : List BuzzEntry) : (changeBuzz q s).roster = s.roster := rfl
@[simp] theorem changeBuzz_link (q : List BuzzEntry) : (changeBuzz q s).link = { s.link with raised := s.link.raised ||| BitVec.twoPow 7 (noticeBit .floor) } := rfl
@[simp] theorem changeBuzz_pending (q : List BuzzEntry) : (changeBuzz q s).pending = s.pending := rfl

/-! ### `replaceRecord` -/

@[simp] theorem replaceRecord_power (st : Station) (seat : Seat) (g : SeatRecord → SeatRecord) : (replaceRecord st seat g s).power = s.power := rfl
@[simp] theorem replaceRecord_straps (st : Station) (seat : Seat) (g : SeatRecord → SeatRecord) : (replaceRecord st seat g s).straps = s.straps := rfl
@[simp] theorem replaceRecord_line (st : Station) (seat : Seat) (g : SeatRecord → SeatRecord) : (replaceRecord st seat g s).line = s.line := rfl
@[simp] theorem replaceRecord_sched (st : Station) (seat : Seat) (g : SeatRecord → SeatRecord) : (replaceRecord st seat g s).sched = s.sched := rfl
@[simp] theorem replaceRecord_store (st : Station) (seat : Seat) (g : SeatRecord → SeatRecord) : (replaceRecord st seat g s).store = s.store := rfl
@[simp] theorem replaceRecord_panel (st : Station) (seat : Seat) (g : SeatRecord → SeatRecord) : (replaceRecord st seat g s).panel = s.panel := rfl
@[simp] theorem replaceRecord_clock (st : Station) (seat : Seat) (g : SeatRecord → SeatRecord) : (replaceRecord st seat g s).clock = s.clock := rfl
@[simp] theorem replaceRecord_engine (st : Station) (seat : Seat) (g : SeatRecord → SeatRecord) : (replaceRecord st seat g s).engine = s.engine := rfl
@[simp] theorem replaceRecord_buzz (st : Station) (seat : Seat) (g : SeatRecord → SeatRecord) : (replaceRecord st seat g s).buzz = s.buzz := rfl
@[simp] theorem replaceRecord_poll (st : Station) (seat : Seat) (g : SeatRecord → SeatRecord) : (replaceRecord st seat g s).poll = s.poll := rfl
@[simp] theorem replaceRecord_score (st : Station) (seat : Seat) (g : SeatRecord → SeatRecord) : (replaceRecord st seat g s).score = { s.score with
      records := s.score.records.map fun r => if r.station = st ∧ r.seat = seat then g r else r } := rfl
@[simp] theorem replaceRecord_roster (st : Station) (seat : Seat) (g : SeatRecord → SeatRecord) : (replaceRecord st seat g s).roster = s.roster := rfl
@[simp] theorem replaceRecord_link (st : Station) (seat : Seat) (g : SeatRecord → SeatRecord) : (replaceRecord st seat g s).link = s.link := rfl
@[simp] theorem replaceRecord_pending (st : Station) (seat : Seat) (g : SeatRecord → SeatRecord) : (replaceRecord st seat g s).pending = s.pending := rfl

/-! ### `setEntry` -/

@[simp] theorem setEntry_power (st : Station) (e : RosterEntry) : (setEntry st e s).power = s.power := rfl
@[simp] theorem setEntry_straps (st : Station) (e : RosterEntry) : (setEntry st e s).straps = s.straps := rfl
@[simp] theorem setEntry_line (st : Station) (e : RosterEntry) : (setEntry st e s).line = s.line := rfl
@[simp] theorem setEntry_sched (st : Station) (e : RosterEntry) : (setEntry st e s).sched = s.sched := rfl
@[simp] theorem setEntry_store (st : Station) (e : RosterEntry) : (setEntry st e s).store = s.store := rfl
@[simp] theorem setEntry_panel (st : Station) (e : RosterEntry) : (setEntry st e s).panel = s.panel := rfl
@[simp] theorem setEntry_clock (st : Station) (e : RosterEntry) : (setEntry st e s).clock = s.clock := rfl
@[simp] theorem setEntry_engine (st : Station) (e : RosterEntry) : (setEntry st e s).engine = s.engine := rfl
@[simp] theorem setEntry_buzz (st : Station) (e : RosterEntry) : (setEntry st e s).buzz = s.buzz := rfl
@[simp] theorem setEntry_poll (st : Station) (e : RosterEntry) : (setEntry st e s).poll = s.poll := rfl
@[simp] theorem setEntry_score (st : Station) (e : RosterEntry) : (setEntry st e s).score = s.score := rfl
@[simp] theorem setEntry_roster (st : Station) (e : RosterEntry) : (setEntry st e s).roster = { s.roster with entries := putAt s.roster.entries st e } := rfl
@[simp] theorem setEntry_link (st : Station) (e : RosterEntry) : (setEntry st e s).link = s.link := rfl
@[simp] theorem setEntry_pending (st : Station) (e : RosterEntry) : (setEntry st e s).pending = s.pending := rfl

/-! ### `markAbsent` -/

@[simp] theorem markAbsent_power (marks : List Byte) : (markAbsent marks s).power = s.power := by simp [markAbsent]
@[simp] theorem markAbsent_straps (marks : List Byte) : (markAbsent marks s).straps = s.straps := by simp [markAbsent]
@[simp] theorem markAbsent_line (marks : List Byte) : (markAbsent marks s).line = s.line := by simp [markAbsent]
@[simp] theorem markAbsent_sched (marks : List Byte) : (markAbsent marks s).sched = s.sched := by simp [markAbsent]
@[simp] theorem markAbsent_store (marks : List Byte) : (markAbsent marks s).store = s.store := by simp [markAbsent]
@[simp] theorem markAbsent_panel (marks : List Byte) : (markAbsent marks s).panel = s.panel := by simp [markAbsent]
@[simp] theorem markAbsent_clock (marks : List Byte) : (markAbsent marks s).clock = s.clock := by simp [markAbsent]
@[simp] theorem markAbsent_engine (marks : List Byte) : (markAbsent marks s).engine = s.engine := by simp [markAbsent]
@[simp] theorem markAbsent_buzz (marks : List Byte) : (markAbsent marks s).buzz = s.buzz := by simp [markAbsent]
@[simp] theorem markAbsent_poll (marks : List Byte) : (markAbsent marks s).poll = s.poll := by simp [markAbsent]
@[simp] theorem markAbsent_score (marks : List Byte) : (markAbsent marks s).score = s.score := by simp [markAbsent]
@[simp] theorem markAbsent_link (marks : List Byte) : (markAbsent marks s).link = s.link := by simp [markAbsent]
@[simp] theorem markAbsent_pending (marks : List Byte) : (markAbsent marks s).pending = s.pending := by simp [markAbsent]

/-! ### `hold` -/

@[simp] theorem hold_power (p : Power) : (hold p s).power = p := rfl
@[simp] theorem hold_straps (p : Power) : (hold p s).straps = s.straps := rfl
@[simp] theorem hold_line (p : Power) : (hold p s).line = { s.line with tx := .silent, rx := stopDriving s.line.rx } := rfl
@[simp] theorem hold_sched (p : Power) : (hold p s).sched = s.sched := rfl
@[simp] theorem hold_store (p : Power) : (hold p s).store = s.store := rfl
@[simp] theorem hold_panel (p : Power) : (hold p s).panel = s.panel := rfl
@[simp] theorem hold_clock (p : Power) : (hold p s).clock = s.clock := rfl
@[simp] theorem hold_engine (p : Power) : (hold p s).engine = s.engine := rfl
@[simp] theorem hold_buzz (p : Power) : (hold p s).buzz = s.buzz := rfl
@[simp] theorem hold_poll (p : Power) : (hold p s).poll = s.poll := rfl
@[simp] theorem hold_score (p : Power) : (hold p s).score = s.score := rfl
@[simp] theorem hold_roster (p : Power) : (hold p s).roster = s.roster := rfl
@[simp] theorem hold_link (p : Power) : (hold p s).link = { s.link with rx := .hunt, tx := .idle } := rfl
@[simp] theorem hold_pending (p : Power) : (hold p s).pending = s.pending := rfl

end Sys2Proof.Machine
end

