-- ==== Sys2Proof/Laws/Panel.lean ====
section
/-! SUPPORT. The frame of each operation of the seat panel: the blocks that it leaves as they were. -/

namespace Sys2Proof.Machine

variable (s : State)

@[simp] theorem flashSeat_frame (i : Seat) :
    (flashSeat i s).power = s.power ∧ (flashSeat i s).straps = s.straps ∧ (flashSeat i s).line = s.line
    ∧ (flashSeat i s).sched = s.sched ∧ (flashSeat i s).store = s.store ∧ (flashSeat i s).clock = s.clock
    ∧ (flashSeat i s).engine = s.engine ∧ (flashSeat i s).buzz = s.buzz ∧ (flashSeat i s).poll = s.poll
    ∧ (flashSeat i s).score = s.score ∧ (flashSeat i s).roster = s.roster ∧ (flashSeat i s).link = s.link
    ∧ (flashSeat i s).pending = s.pending := by
  unfold flashSeat
  refine ⟨?_, ?_, ?_, ?_, ?_, ?_, ?_, ?_, ?_, ?_, ?_, ?_, ?_⟩ <;> simp

@[simp] theorem dropPress_frame (i : Seat) :
    (dropPress i s).power = s.power ∧ (dropPress i s).straps = s.straps ∧ (dropPress i s).line = s.line
    ∧ (dropPress i s).sched = s.sched ∧ (dropPress i s).store = s.store ∧ (dropPress i s).clock = s.clock
    ∧ (dropPress i s).engine = s.engine ∧ (dropPress i s).buzz = s.buzz ∧ (dropPress i s).poll = s.poll
    ∧ (dropPress i s).score = s.score ∧ (dropPress i s).roster = s.roster ∧ (dropPress i s).link = s.link
    ∧ (dropPress i s).pending = s.pending := by
  unfold dropPress
  refine ⟨?_, ?_, ?_, ?_, ?_, ?_, ?_, ?_, ?_, ?_, ?_, ?_, ?_⟩ <;> simp

/-- A press that no latched press shares its stamp with joins at the back (R87). -/
theorem insertPress_new {p : Press} {l : List Press} (h : ∀ x ∈ l, x.stamp ≠ p.stamp) : insertPress p l = l ++ [p] := by
  induction l with
  | nil => rfl
  | cons x l ih =>
    have hx : p.stamp ≠ x.stamp := fun e => h x (by simp) e.symm
    simp [insertPress, hx, ih fun y hy => h y (by simp [hy])]

/-- Every press and the new one stand in the list, each once. -/
theorem insertPress_perm (p : Press) (l : List Press) : (insertPress p l).Perm (p :: l) := by
  induction l with
  | nil => exact .refl _
  | cons x l ih =>
    unfold insertPress
    split
    · exact .refl _
    · exact (ih.cons x).trans (.swap p x l)

@[simp] theorem latchPress_frame (i : Seat) (k : PadKey) :
    (latchPress i k s).power = s.power ∧ (latchPress i k s).straps = s.straps ∧ (latchPress i k s).line = s.line
    ∧ (latchPress i k s).sched = s.sched ∧ (latchPress i k s).store = s.store ∧ (latchPress i k s).clock = s.clock
    ∧ (latchPress i k s).engine = s.engine ∧ (latchPress i k s).buzz = s.buzz ∧ (latchPress i k s).poll = s.poll
    ∧ (latchPress i k s).score = s.score ∧ (latchPress i k s).roster = s.roster ∧ (latchPress i k s).link = s.link
    ∧ (latchPress i k s).pending = s.pending := by
  unfold latchPress
  refine ⟨?_, ?_, ?_, ?_, ?_, ?_, ?_, ?_, ?_, ?_, ?_, ?_, ?_⟩ <;> (repeat' split) <;> simp

@[simp] theorem setKey_frame (i : Seat) (k : PadKey) (v : KeyState) :
    (setKey i k v s).power = s.power ∧ (setKey i k v s).straps = s.straps ∧ (setKey i k v s).line = s.line
    ∧ (setKey i k v s).sched = s.sched ∧ (setKey i k v s).store = s.store ∧ (setKey i k v s).clock = s.clock
    ∧ (setKey i k v s).engine = s.engine ∧ (setKey i k v s).buzz = s.buzz ∧ (setKey i k v s).poll = s.poll
    ∧ (setKey i k v s).score = s.score ∧ (setKey i k v s).roster = s.roster ∧ (setKey i k v s).link = s.link
    ∧ (setKey i k v s).pending = s.pending := by
  unfold setKey
  refine ⟨?_, ?_, ?_, ?_, ?_, ?_, ?_, ?_, ?_, ?_, ?_, ?_, ?_⟩ <;> simp

@[simp] theorem acceptKey_frame (i : Seat) (k : PadKey) :
    (acceptKey i k s).power = s.power ∧ (acceptKey i k s).straps = s.straps ∧ (acceptKey i k s).line = s.line
    ∧ (acceptKey i k s).sched = s.sched ∧ (acceptKey i k s).store = s.store ∧ (acceptKey i k s).clock = s.clock
    ∧ (acceptKey i k s).engine = s.engine ∧ (acceptKey i k s).buzz = s.buzz ∧ (acceptKey i k s).poll = s.poll
    ∧ (acceptKey i k s).score = s.score ∧ (acceptKey i k s).roster = s.roster ∧ (acceptKey i k s).link = s.link
    ∧ (acceptKey i k s).pending = s.pending := by
  unfold acceptKey
  refine ⟨?_, ?_, ?_, ?_, ?_, ?_, ?_, ?_, ?_, ?_, ?_, ?_, ?_⟩ <;> simp <;> (repeat' split) <;> simp

/-- What a reported third reading leaves as it was; it moves the panel and the clock alone (R85, R86). -/
@[simp] theorem thirdReading_frame (i : Seat) (k : PadKey) :
    (thirdReading i k s).power = s.power ∧ (thirdReading i k s).straps = s.straps ∧ (thirdReading i k s).line = s.line
    ∧ (thirdReading i k s).sched = s.sched ∧ (thirdReading i k s).store = s.store
    ∧ (thirdReading i k s).engine = s.engine ∧ (thirdReading i k s).buzz = s.buzz ∧ (thirdReading i k s).poll = s.poll
    ∧ (thirdReading i k s).score = s.score ∧ (thirdReading i k s).roster = s.roster
    ∧ (thirdReading i k s).link = s.link ∧ (thirdReading i k s).pending = s.pending := by
  unfold thirdReading
  refine ⟨?_, ?_, ?_, ?_, ?_, ?_, ?_, ?_, ?_, ?_, ?_, ?_⟩ <;> simp <;> (repeat' split) <;> simp

@[simp] theorem scanKey_frame (r : BitVec 40) (a : Seat × PadKey) :
    (scanKey r a s).power = s.power ∧ (scanKey r a s).straps = s.straps ∧ (scanKey r a s).line = s.line
    ∧ (scanKey r a s).sched = s.sched ∧ (scanKey r a s).store = s.store ∧ (scanKey r a s).clock = s.clock
    ∧ (scanKey r a s).engine = s.engine ∧ (scanKey r a s).buzz = s.buzz ∧ (scanKey r a s).poll = s.poll
    ∧ (scanKey r a s).score = s.score ∧ (scanKey r a s).roster = s.roster ∧ (scanKey r a s).link = s.link
    ∧ (scanKey r a s).pending = s.pending := by
  unfold scanKey
  refine ⟨?_, ?_, ?_, ?_, ?_, ?_, ?_, ?_, ?_, ?_, ?_, ?_, ?_⟩ <;> simp <;> (repeat' split) <;> simp

end Sys2Proof.Machine
end

