-- ==== Sys2Proof/Laws/Sending.lean ====
section
/-! SUPPORT. The frame of each operation of the flags, the transmit scheduler and the settling of both transmitters: the blocks that it leaves as they were. -/

namespace Sys2Proof.Machine

variable (s : State)

/-- A fold keeps what each of its steps keeps. -/
theorem foldl_keeps {α β γ : Type} (g : α → γ) (f : α → β → α) (h : ∀ a b, g (f a b) = g a) :
    ∀ (l : List β) (a : α), g (l.foldl f a) = g a
  | [], _ => rfl
  | b :: l, a => (foldl_keeps g f h l (f a b)).trans (h a b)

@[simp] theorem raiseIf_frame (c : Bool) (n : Notice) :
    (raiseIf c n s).power = s.power ∧ (raiseIf c n s).straps = s.straps ∧ (raiseIf c n s).line = s.line
    ∧ (raiseIf c n s).sched = s.sched ∧ (raiseIf c n s).store = s.store ∧ (raiseIf c n s).panel = s.panel
    ∧ (raiseIf c n s).clock = s.clock ∧ (raiseIf c n s).engine = s.engine ∧ (raiseIf c n s).buzz = s.buzz
    ∧ (raiseIf c n s).poll = s.poll ∧ (raiseIf c n s).score = s.score ∧ (raiseIf c n s).roster = s.roster
    ∧ (raiseIf c n s).pending = s.pending := by
  unfold raiseIf
  refine ⟨?_, ?_, ?_, ?_, ?_, ?_, ?_, ?_, ?_, ?_, ?_, ?_, ?_⟩ <;> (repeat' split) <;> simp

@[simp] theorem setCatchUp_frame (c : CatchUp) :
    (setCatchUp c s).power = s.power ∧ (setCatchUp c s).straps = s.straps ∧ (setCatchUp c s).line = s.line
    ∧ (setCatchUp c s).sched = s.sched ∧ (setCatchUp c s).store = s.store ∧ (setCatchUp c s).panel = s.panel
    ∧ (setCatchUp c s).clock = s.clock ∧ (setCatchUp c s).engine = s.engine ∧ (setCatchUp c s).buzz = s.buzz
    ∧ (setCatchUp c s).poll = s.poll ∧ (setCatchUp c s).score = s.score ∧ (setCatchUp c s).pending = s.pending := by
  unfold setCatchUp
  refine ⟨?_, ?_, ?_, ?_, ?_, ?_, ?_, ?_, ?_, ?_, ?_, ?_⟩ <;> simp

@[simp] theorem setAdrift_frame :
    (setAdrift s).power = s.power ∧ (setAdrift s).straps = s.straps ∧ (setAdrift s).line = s.line
    ∧ (setAdrift s).sched = s.sched ∧ (setAdrift s).panel = s.panel ∧ (setAdrift s).clock = s.clock
    ∧ (setAdrift s).engine = s.engine ∧ (setAdrift s).buzz = s.buzz ∧ (setAdrift s).poll = s.poll
    ∧ (setAdrift s).score = s.score ∧ (setAdrift s).pending = s.pending := by
  unfold setAdrift
  refine ⟨?_, ?_, ?_, ?_, ?_, ?_, ?_, ?_, ?_, ?_, ?_⟩ <;> simp

@[simp] theorem setHealth_frame (h : Health) :
    (setHealth h s).power = s.power ∧ (setHealth h s).straps = s.straps ∧ (setHealth h s).line = s.line
    ∧ (setHealth h s).sched = s.sched ∧ (setHealth h s).panel = s.panel ∧ (setHealth h s).clock = s.clock
    ∧ (setHealth h s).engine = s.engine ∧ (setHealth h s).buzz = s.buzz ∧ (setHealth h s).poll = s.poll
    ∧ (setHealth h s).score = s.score ∧ (setHealth h s).roster = s.roster ∧ (setHealth h s).pending = s.pending := by
  unfold setHealth
  refine ⟨?_, ?_, ?_, ?_, ?_, ?_, ?_, ?_, ?_, ?_, ?_, ?_⟩ <;> simp

@[simp] theorem enterOff_frame :
    (enterOff s).power = s.power ∧ (enterOff s).straps = s.straps ∧ (enterOff s).sched = s.sched
    ∧ (enterOff s).panel = s.panel ∧ (enterOff s).clock = s.clock ∧ (enterOff s).engine = s.engine
    ∧ (enterOff s).buzz = s.buzz ∧ (enterOff s).poll = s.poll ∧ (enterOff s).score = s.score
    ∧ (enterOff s).roster = s.roster ∧ (enterOff s).pending = s.pending := by
  unfold enterOff
  refine ⟨?_, ?_, ?_, ?_, ?_, ?_, ?_, ?_, ?_, ?_, ?_⟩ <;> simp

@[simp] theorem addHealth_frame (n : Nat) :
    (addHealth n s).power = s.power ∧ (addHealth n s).straps = s.straps ∧ (addHealth n s).sched = s.sched
    ∧ (addHealth n s).panel = s.panel ∧ (addHealth n s).clock = s.clock ∧ (addHealth n s).engine = s.engine
    ∧ (addHealth n s).buzz = s.buzz ∧ (addHealth n s).poll = s.poll ∧ (addHealth n s).score = s.score
    ∧ (addHealth n s).roster = s.roster ∧ (addHealth n s).pending = s.pending := by
  unfold addHealth
  refine ⟨?_, ?_, ?_, ?_, ?_, ?_, ?_, ?_, ?_, ?_, ?_⟩ <;> (repeat' split) <;> simp

@[simp] theorem subHealth_frame :
    (subHealth s).power = s.power ∧ (subHealth s).straps = s.straps ∧ (subHealth s).line = s.line
    ∧ (subHealth s).sched = s.sched ∧ (subHealth s).panel = s.panel ∧ (subHealth s).clock = s.clock
    ∧ (subHealth s).engine = s.engine ∧ (subHealth s).buzz = s.buzz ∧ (subHealth s).poll = s.poll
    ∧ (subHealth s).score = s.score ∧ (subHealth s).roster = s.roster ∧ (subHealth s).pending = s.pending := by
  unfold subHealth
  refine ⟨?_, ?_, ?_, ?_, ?_, ?_, ?_, ?_, ?_, ?_, ?_, ?_⟩ <;> (repeat' split) <;> simp

@[simp] theorem setTwin_frame (k : Key) :
    (setTwin k s).power = s.power ∧ (setTwin k s).straps = s.straps ∧ (setTwin k s).sched = s.sched
    ∧ (setTwin k s).panel = s.panel ∧ (setTwin k s).clock = s.clock ∧ (setTwin k s).engine = s.engine
    ∧ (setTwin k s).buzz = s.buzz ∧ (setTwin k s).poll = s.poll ∧ (setTwin k s).score = s.score
    ∧ (setTwin k s).roster = s.roster ∧ (setTwin k s).pending = s.pending := by
  unfold setTwin
  refine ⟨?_, ?_, ?_, ?_, ?_, ?_, ?_, ?_, ?_, ?_, ?_⟩ <;> simp

@[simp] theorem place_frame (e : TxEntry) :
    (place e s).power = s.power ∧ (place e s).straps = s.straps ∧ (place e s).line = s.line
    ∧ (place e s).store = s.store ∧ (place e s).panel = s.panel ∧ (place e s).clock = s.clock
    ∧ (place e s).engine = s.engine ∧ (place e s).buzz = s.buzz ∧ (place e s).poll = s.poll
    ∧ (place e s).score = s.score ∧ (place e s).roster = s.roster ∧ (place e s).link = s.link
    ∧ (place e s).pending = s.pending := by
  unfold place
  refine ⟨?_, ?_, ?_, ?_, ?_, ?_, ?_, ?_, ?_, ?_, ?_, ?_, ?_⟩ <;> (repeat' split) <;> simp

@[simp] theorem refreshAnswer_frame (q : Nat) :
    (refreshAnswer q s).power = s.power ∧ (refreshAnswer q s).straps = s.straps ∧ (refreshAnswer q s).line = s.line
    ∧ (refreshAnswer q s).store = s.store ∧ (refreshAnswer q s).panel = s.panel ∧ (refreshAnswer q s).clock = s.clock
    ∧ (refreshAnswer q s).engine = s.engine ∧ (refreshAnswer q s).buzz = s.buzz ∧ (refreshAnswer q s).poll = s.poll
    ∧ (refreshAnswer q s).score = s.score ∧ (refreshAnswer q s).roster = s.roster ∧ (refreshAnswer q s).link = s.link
    ∧ (refreshAnswer q s).pending = s.pending := by
  unfold refreshAnswer
  refine ⟨?_, ?_, ?_, ?_, ?_, ?_, ?_, ?_, ?_, ?_, ?_, ?_, ?_⟩ <;> (repeat' split) <;> simp

@[simp] theorem recordAnswer_frame (seat : Seat) (c : Choice) (e q : Nat) :
    (recordAnswer seat c e q s).power = s.power ∧ (recordAnswer seat c e q s).straps = s.straps ∧ (recordAnswer seat c e q s).line = s.line
    ∧ (recordAnswer seat c e q s).store = s.store ∧ (recordAnswer seat c e q s).panel = s.panel ∧ (recordAnswer seat c e q s).clock = s.clock
    ∧ (recordAnswer seat c e q s).engine = s.engine ∧ (recordAnswer seat c e q s).buzz = s.buzz ∧ (recordAnswer seat c e q s).poll = s.poll
    ∧ (recordAnswer seat c e q s).score = s.score ∧ (recordAnswer seat c e q s).roster = s.roster ∧ (recordAnswer seat c e q s).link = s.link
    ∧ (recordAnswer seat c e q s).pending = s.pending := by
  unfold recordAnswer
  refine ⟨?_, ?_, ?_, ?_, ?_, ?_, ?_, ?_, ?_, ?_, ?_, ?_, ?_⟩ <;> simp

@[simp] theorem startFrame_frame (e : TxEntry) :
    (startFrame e s).power = s.power ∧ (startFrame e s).straps = s.straps ∧ (startFrame e s).store = s.store
    ∧ (startFrame e s).panel = s.panel ∧ (startFrame e s).clock = s.clock ∧ (startFrame e s).engine = s.engine
    ∧ (startFrame e s).buzz = s.buzz ∧ (startFrame e s).poll = s.poll ∧ (startFrame e s).score = s.score
    ∧ (startFrame e s).roster = s.roster ∧ (startFrame e s).link = s.link ∧ (startFrame e s).pending = s.pending := by
  unfold startFrame
  refine ⟨?_, ?_, ?_, ?_, ?_, ?_, ?_, ?_, ?_, ?_, ?_, ?_⟩ <;> (repeat' split) <;> simp

@[simp] theorem settleTx_frame :
    (settleTx s).power = s.power ∧ (settleTx s).straps = s.straps ∧ (settleTx s).store = s.store
    ∧ (settleTx s).panel = s.panel ∧ (settleTx s).clock = s.clock ∧ (settleTx s).engine = s.engine
    ∧ (settleTx s).buzz = s.buzz ∧ (settleTx s).poll = s.poll ∧ (settleTx s).score = s.score
    ∧ (settleTx s).roster = s.roster ∧ (settleTx s).link = s.link ∧ (settleTx s).pending = s.pending := by
  unfold settleTx
  refine ⟨?_, ?_, ?_, ?_, ?_, ?_, ?_, ?_, ?_, ?_, ?_, ?_⟩ <;> (repeat' split) <;> simp

@[simp] theorem settleLink_frame :
    (settleLink s).power = s.power ∧ (settleLink s).straps = s.straps ∧ (settleLink s).line = s.line
    ∧ (settleLink s).sched = s.sched ∧ (settleLink s).store = s.store ∧ (settleLink s).panel = s.panel
    ∧ (settleLink s).clock = s.clock ∧ (settleLink s).engine = s.engine ∧ (settleLink s).buzz = s.buzz
    ∧ (settleLink s).poll = s.poll ∧ (settleLink s).score = s.score ∧ (settleLink s).roster = s.roster
    ∧ (settleLink s).pending = s.pending := by
  unfold settleLink
  refine ⟨?_, ?_, ?_, ?_, ?_, ?_, ?_, ?_, ?_, ?_, ?_, ?_, ?_⟩ <;> (repeat' split) <;> simp

@[simp] theorem settle_frame :
    (settle s).power = s.power ∧ (settle s).straps = s.straps ∧ (settle s).store = s.store
    ∧ (settle s).panel = s.panel ∧ (settle s).clock = s.clock ∧ (settle s).engine = s.engine
    ∧ (settle s).buzz = s.buzz ∧ (settle s).poll = s.poll ∧ (settle s).score = s.score
    ∧ (settle s).roster = s.roster ∧ (settle s).pending = s.pending := by
  unfold settle
  refine ⟨?_, ?_, ?_, ?_, ?_, ?_, ?_, ?_, ?_, ?_, ?_⟩ <;> simp

@[simp] theorem delivered_frame :
    (delivered s).power = s.power ∧ (delivered s).straps = s.straps ∧ (delivered s).store = s.store
    ∧ (delivered s).panel = s.panel ∧ (delivered s).clock = s.clock ∧ (delivered s).engine = s.engine
    ∧ (delivered s).buzz = s.buzz ∧ (delivered s).poll = s.poll ∧ (delivered s).score = s.score
    ∧ (delivered s).roster = s.roster ∧ (delivered s).link = s.link ∧ (delivered s).pending = s.pending := by
  unfold delivered
  refine ⟨?_, ?_, ?_, ?_, ?_, ?_, ?_, ?_, ?_, ?_, ?_, ?_⟩ <;> (repeat' split) <;> simp

@[simp] theorem returned_frame :
    (returned s).power = s.power ∧ (returned s).straps = s.straps ∧ (returned s).store = s.store
    ∧ (returned s).panel = s.panel ∧ (returned s).clock = s.clock ∧ (returned s).engine = s.engine
    ∧ (returned s).buzz = s.buzz ∧ (returned s).poll = s.poll ∧ (returned s).score = s.score
    ∧ (returned s).roster = s.roster ∧ (returned s).link = s.link ∧ (returned s).pending = s.pending := by
  unfold returned
  refine ⟨?_, ?_, ?_, ?_, ?_, ?_, ?_, ?_, ?_, ?_, ?_, ?_⟩ <;> (repeat' split) <;> simp

@[simp] theorem failed_frame :
    (failed s).power = s.power ∧ (failed s).straps = s.straps ∧ (failed s).store = s.store
    ∧ (failed s).panel = s.panel ∧ (failed s).clock = s.clock ∧ (failed s).engine = s.engine
    ∧ (failed s).buzz = s.buzz ∧ (failed s).poll = s.poll ∧ (failed s).score = s.score
    ∧ (failed s).roster = s.roster ∧ (failed s).pending = s.pending := by
  unfold failed
  refine ⟨?_, ?_, ?_, ?_, ?_, ?_, ?_, ?_, ?_, ?_, ?_⟩ <;> (repeat' split) <;> simp

@[simp] theorem purge_frame (p : TxEntry → Bool) :
    (purge p s).power = s.power ∧ (purge p s).straps = s.straps ∧ (purge p s).line = s.line
    ∧ (purge p s).store = s.store ∧ (purge p s).panel = s.panel ∧ (purge p s).clock = s.clock
    ∧ (purge p s).engine = s.engine ∧ (purge p s).buzz = s.buzz ∧ (purge p s).poll = s.poll
    ∧ (purge p s).score = s.score ∧ (purge p s).roster = s.roster ∧ (purge p s).link = s.link
    ∧ (purge p s).pending = s.pending := by
  unfold purge
  refine ⟨?_, ?_, ?_, ?_, ?_, ?_, ?_, ?_, ?_, ?_, ?_, ?_, ?_⟩ <;> simp

@[simp] theorem questionChanged_frame (n : Option Nat) :
    (questionChanged n s).power = s.power ∧ (questionChanged n s).straps = s.straps ∧ (questionChanged n s).line = s.line
    ∧ (questionChanged n s).store = s.store ∧ (questionChanged n s).panel = s.panel ∧ (questionChanged n s).clock = s.clock
    ∧ (questionChanged n s).engine = s.engine ∧ (questionChanged n s).buzz = s.buzz ∧ (questionChanged n s).poll = s.poll
    ∧ (questionChanged n s).score = s.score ∧ (questionChanged n s).roster = s.roster ∧ (questionChanged n s).link = s.link
    ∧ (questionChanged n s).pending = s.pending := by
  unfold questionChanged
  refine ⟨?_, ?_, ?_, ?_, ?_, ?_, ?_, ?_, ?_, ?_, ?_, ?_, ?_⟩ <;> simp

@[simp] theorem showPurge_frame :
    (showPurge s).power = s.power ∧ (showPurge s).straps = s.straps ∧ (showPurge s).line = s.line
    ∧ (showPurge s).store = s.store ∧ (showPurge s).panel = s.panel ∧ (showPurge s).clock = s.clock
    ∧ (showPurge s).engine = s.engine ∧ (showPurge s).buzz = s.buzz ∧ (showPurge s).poll = s.poll
    ∧ (showPurge s).score = s.score ∧ (showPurge s).roster = s.roster ∧ (showPurge s).link = s.link
    ∧ (showPurge s).pending = s.pending := by
  unfold showPurge
  refine ⟨?_, ?_, ?_, ?_, ?_, ?_, ?_, ?_, ?_, ?_, ?_, ?_, ?_⟩ <;> simp

@[simp] theorem wrongPurge_frame (u : LockUnit) :
    (wrongPurge u s).power = s.power ∧ (wrongPurge u s).straps = s.straps ∧ (wrongPurge u s).line = s.line
    ∧ (wrongPurge u s).store = s.store ∧ (wrongPurge u s).panel = s.panel ∧ (wrongPurge u s).clock = s.clock
    ∧ (wrongPurge u s).engine = s.engine ∧ (wrongPurge u s).buzz = s.buzz ∧ (wrongPurge u s).poll = s.poll
    ∧ (wrongPurge u s).score = s.score ∧ (wrongPurge u s).roster = s.roster ∧ (wrongPurge u s).link = s.link
    ∧ (wrongPurge u s).pending = s.pending := by
  unfold wrongPurge
  refine ⟨?_, ?_, ?_, ?_, ?_, ?_, ?_, ?_, ?_, ?_, ?_, ?_, ?_⟩ <;> (repeat' split) <;> simp

@[simp] theorem requestHello_frame :
    (requestHello s).power = s.power ∧ (requestHello s).straps = s.straps ∧ (requestHello s).line = s.line
    ∧ (requestHello s).store = s.store ∧ (requestHello s).panel = s.panel ∧ (requestHello s).clock = s.clock
    ∧ (requestHello s).engine = s.engine ∧ (requestHello s).buzz = s.buzz ∧ (requestHello s).poll = s.poll
    ∧ (requestHello s).score = s.score ∧ (requestHello s).roster = s.roster ∧ (requestHello s).link = s.link
    ∧ (requestHello s).pending = s.pending := by
  unfold requestHello
  refine ⟨?_, ?_, ?_, ?_, ?_, ?_, ?_, ?_, ?_, ?_, ?_, ?_, ?_⟩ <;> (repeat' split) <;> simp

@[simp] theorem requestTally_frame :
    (requestTally s).power = s.power ∧ (requestTally s).straps = s.straps ∧ (requestTally s).line = s.line
    ∧ (requestTally s).store = s.store ∧ (requestTally s).panel = s.panel ∧ (requestTally s).clock = s.clock
    ∧ (requestTally s).engine = s.engine ∧ (requestTally s).buzz = s.buzz ∧ (requestTally s).poll = s.poll
    ∧ (requestTally s).score = s.score ∧ (requestTally s).roster = s.roster ∧ (requestTally s).link = s.link
    ∧ (requestTally s).pending = s.pending := by
  unfold requestTally
  refine ⟨?_, ?_, ?_, ?_, ?_, ?_, ?_, ?_, ?_, ?_, ?_, ?_, ?_⟩ <;> (repeat' split) <;> simp

end Sys2Proof.Machine
end

