-- ==== Sys2Proof/Laws/Score.lean ====
section
/-! SUPPORT. The frame of each operation of the score unit: the blocks that it leaves as they were. -/

namespace Sys2Proof.Machine

variable (s : State)

@[simp] theorem moveTotal_frame (t : Option Team) (d : Int) :
    (moveTotal t d s).power = s.power ∧ (moveTotal t d s).straps = s.straps ∧ (moveTotal t d s).line = s.line
    ∧ (moveTotal t d s).sched = s.sched ∧ (moveTotal t d s).store = s.store ∧ (moveTotal t d s).panel = s.panel
    ∧ (moveTotal t d s).clock = s.clock ∧ (moveTotal t d s).engine = s.engine ∧ (moveTotal t d s).buzz = s.buzz
    ∧ (moveTotal t d s).poll = s.poll ∧ (moveTotal t d s).roster = s.roster ∧ (moveTotal t d s).link = s.link
    ∧ (moveTotal t d s).pending = s.pending := by
  unfold moveTotal
  refine ⟨?_, ?_, ?_, ?_, ?_, ?_, ?_, ?_, ?_, ?_, ?_, ?_, ?_⟩ <;> (repeat' split) <;> simp

@[simp] theorem recompute_frame :
    (recompute s).power = s.power ∧ (recompute s).straps = s.straps ∧ (recompute s).line = s.line
    ∧ (recompute s).sched = s.sched ∧ (recompute s).store = s.store ∧ (recompute s).panel = s.panel
    ∧ (recompute s).clock = s.clock ∧ (recompute s).engine = s.engine ∧ (recompute s).buzz = s.buzz
    ∧ (recompute s).poll = s.poll ∧ (recompute s).roster = s.roster ∧ (recompute s).pending = s.pending := by
  unfold recompute
  refine ⟨?_, ?_, ?_, ?_, ?_, ?_, ?_, ?_, ?_, ?_, ?_, ?_⟩ <;> simp

@[simp] theorem ensureRecord_frame (st : Station) (i : Seat) :
    (ensureRecord st i s).power = s.power ∧ (ensureRecord st i s).straps = s.straps ∧ (ensureRecord st i s).line = s.line
    ∧ (ensureRecord st i s).sched = s.sched ∧ (ensureRecord st i s).store = s.store ∧ (ensureRecord st i s).panel = s.panel
    ∧ (ensureRecord st i s).clock = s.clock ∧ (ensureRecord st i s).engine = s.engine ∧ (ensureRecord st i s).buzz = s.buzz
    ∧ (ensureRecord st i s).poll = s.poll ∧ (ensureRecord st i s).roster = s.roster ∧ (ensureRecord st i s).link = s.link
    ∧ (ensureRecord st i s).pending = s.pending := by
  unfold ensureRecord
  refine ⟨?_, ?_, ?_, ?_, ?_, ?_, ?_, ?_, ?_, ?_, ?_, ?_, ?_⟩ <;> (repeat' split) <;> simp

@[simp] theorem giveSeat_frame (st : Station) (i : Seat) :
    (giveSeat st i s).power = s.power ∧ (giveSeat st i s).straps = s.straps ∧ (giveSeat st i s).line = s.line
    ∧ (giveSeat st i s).sched = s.sched ∧ (giveSeat st i s).store = s.store ∧ (giveSeat st i s).panel = s.panel
    ∧ (giveSeat st i s).clock = s.clock ∧ (giveSeat st i s).engine = s.engine ∧ (giveSeat st i s).buzz = s.buzz
    ∧ (giveSeat st i s).poll = s.poll ∧ (giveSeat st i s).roster = s.roster ∧ (giveSeat st i s).pending = s.pending := by
  unfold giveSeat
  refine ⟨?_, ?_, ?_, ?_, ?_, ?_, ?_, ?_, ?_, ?_, ?_, ?_⟩ <;> (repeat' split) <;> simp

@[simp] theorem rewriteRecord_frame (st : Station) (i : Seat) (g : SeatRecord → SeatRecord) :
    (rewriteRecord st i g s).power = s.power ∧ (rewriteRecord st i g s).straps = s.straps ∧ (rewriteRecord st i g s).line = s.line
    ∧ (rewriteRecord st i g s).sched = s.sched ∧ (rewriteRecord st i g s).store = s.store ∧ (rewriteRecord st i g s).panel = s.panel
    ∧ (rewriteRecord st i g s).clock = s.clock ∧ (rewriteRecord st i g s).engine = s.engine ∧ (rewriteRecord st i g s).buzz = s.buzz
    ∧ (rewriteRecord st i g s).poll = s.poll ∧ (rewriteRecord st i g s).roster = s.roster ∧ (rewriteRecord st i g s).link = s.link
    ∧ (rewriteRecord st i g s).pending = s.pending := by
  unfold rewriteRecord
  refine ⟨?_, ?_, ?_, ?_, ?_, ?_, ?_, ?_, ?_, ?_, ?_, ?_, ?_⟩ <;> (repeat' split) <;> simp

@[simp] theorem judgeCorrect_frame (q : Question) (b : BuzzEntry) :
    (judgeCorrect q b s).power = s.power ∧ (judgeCorrect q b s).straps = s.straps ∧ (judgeCorrect q b s).line = s.line
    ∧ (judgeCorrect q b s).sched = s.sched ∧ (judgeCorrect q b s).store = s.store ∧ (judgeCorrect q b s).panel = s.panel
    ∧ (judgeCorrect q b s).clock = s.clock ∧ (judgeCorrect q b s).engine = s.engine ∧ (judgeCorrect q b s).buzz = s.buzz
    ∧ (judgeCorrect q b s).poll = s.poll ∧ (judgeCorrect q b s).roster = s.roster ∧ (judgeCorrect q b s).pending = s.pending := by
  unfold judgeCorrect
  refine ⟨?_, ?_, ?_, ?_, ?_, ?_, ?_, ?_, ?_, ?_, ?_, ?_⟩ <;> simp

@[simp] theorem judgeWrong_frame (q : Question) (b : BuzzEntry) :
    (judgeWrong q b s).power = s.power ∧ (judgeWrong q b s).straps = s.straps ∧ (judgeWrong q b s).line = s.line
    ∧ (judgeWrong q b s).sched = s.sched ∧ (judgeWrong q b s).store = s.store ∧ (judgeWrong q b s).panel = s.panel
    ∧ (judgeWrong q b s).clock = s.clock ∧ (judgeWrong q b s).engine = s.engine ∧ (judgeWrong q b s).buzz = s.buzz
    ∧ (judgeWrong q b s).poll = s.poll ∧ (judgeWrong q b s).roster = s.roster ∧ (judgeWrong q b s).pending = s.pending := by
  unfold judgeWrong
  refine ⟨?_, ?_, ?_, ?_, ?_, ?_, ?_, ?_, ?_, ?_, ?_, ?_⟩ <;> simp

@[simp] theorem sweep_frame (q : Question) (set : ChoiceSet) :
    (sweep q set s).power = s.power ∧ (sweep q set s).straps = s.straps ∧ (sweep q set s).line = s.line
    ∧ (sweep q set s).sched = s.sched ∧ (sweep q set s).store = s.store ∧ (sweep q set s).panel = s.panel
    ∧ (sweep q set s).clock = s.clock ∧ (sweep q set s).engine = s.engine ∧ (sweep q set s).buzz = s.buzz
    ∧ (sweep q set s).poll = s.poll ∧ (sweep q set s).roster = s.roster ∧ (sweep q set s).link = s.link
    ∧ (sweep q set s).pending = s.pending := by
  exact ⟨foldl_keeps State.power _ (fun _ _ => by simp) _ _,
      foldl_keeps State.straps _ (fun _ _ => by simp) _ _,
      foldl_keeps State.line _ (fun _ _ => by simp) _ _,
      foldl_keeps State.sched _ (fun _ _ => by simp) _ _,
      foldl_keeps State.store _ (fun _ _ => by simp) _ _,
      foldl_keeps State.panel _ (fun _ _ => by simp) _ _,
      foldl_keeps State.clock _ (fun _ _ => by simp) _ _,
      foldl_keeps State.engine _ (fun _ _ => by simp) _ _,
      foldl_keeps State.buzz _ (fun _ _ => by simp) _ _,
      foldl_keeps State.poll _ (fun _ _ => by simp) _ _,
      foldl_keeps State.roster _ (fun _ _ => by simp) _ _,
      foldl_keeps State.link _ (fun _ _ => by simp) _ _,
      foldl_keeps State.pending _ (fun _ _ => by simp) _ _⟩

@[simp] theorem beginScores_frame :
    (beginScores s).power = s.power ∧ (beginScores s).straps = s.straps ∧ (beginScores s).line = s.line
    ∧ (beginScores s).sched = s.sched ∧ (beginScores s).store = s.store ∧ (beginScores s).panel = s.panel
    ∧ (beginScores s).clock = s.clock ∧ (beginScores s).engine = s.engine ∧ (beginScores s).buzz = s.buzz
    ∧ (beginScores s).poll = s.poll ∧ (beginScores s).roster = s.roster ∧ (beginScores s).pending = s.pending := by
  unfold beginScores
  refine ⟨?_, ?_, ?_, ?_, ?_, ?_, ?_, ?_, ?_, ?_, ?_, ?_⟩ <;> simp

@[simp] theorem overwriteSeat_frame (st : Station) (b : List Byte) (n : Nat) (i : Seat) :
    (overwriteSeat st b n s i).power = s.power ∧ (overwriteSeat st b n s i).straps = s.straps ∧ (overwriteSeat st b n s i).line = s.line
    ∧ (overwriteSeat st b n s i).sched = s.sched ∧ (overwriteSeat st b n s i).store = s.store ∧ (overwriteSeat st b n s i).panel = s.panel
    ∧ (overwriteSeat st b n s i).clock = s.clock ∧ (overwriteSeat st b n s i).engine = s.engine ∧ (overwriteSeat st b n s i).buzz = s.buzz
    ∧ (overwriteSeat st b n s i).poll = s.poll ∧ (overwriteSeat st b n s i).roster = s.roster ∧ (overwriteSeat st b n s i).link = s.link
    ∧ (overwriteSeat st b n s i).pending = s.pending := by
  unfold overwriteSeat
  refine ⟨?_, ?_, ?_, ?_, ?_, ?_, ?_, ?_, ?_, ?_, ?_, ?_, ?_⟩ <;> simp

@[simp] theorem overwriteSeats_frame (st : Station) (b : List Byte) :
    (overwriteSeats st b s).power = s.power ∧ (overwriteSeats st b s).straps = s.straps ∧ (overwriteSeats st b s).line = s.line
    ∧ (overwriteSeats st b s).sched = s.sched ∧ (overwriteSeats st b s).store = s.store ∧ (overwriteSeats st b s).panel = s.panel
    ∧ (overwriteSeats st b s).clock = s.clock ∧ (overwriteSeats st b s).engine = s.engine ∧ (overwriteSeats st b s).buzz = s.buzz
    ∧ (overwriteSeats st b s).poll = s.poll ∧ (overwriteSeats st b s).roster = s.roster ∧ (overwriteSeats st b s).pending = s.pending := by
  simp only [overwriteSeats, recompute_frame]
  exact ⟨foldl_keeps State.power _ (fun _ _ => by simp) _ _,
      foldl_keeps State.straps _ (fun _ _ => by simp) _ _,
      foldl_keeps State.line _ (fun _ _ => by simp) _ _,
      foldl_keeps State.sched _ (fun _ _ => by simp) _ _,
      foldl_keeps State.store _ (fun _ _ => by simp) _ _,
      foldl_keeps State.panel _ (fun _ _ => by simp) _ _,
      foldl_keeps State.clock _ (fun _ _ => by simp) _ _,
      foldl_keeps State.engine _ (fun _ _ => by simp) _ _,
      foldl_keeps State.buzz _ (fun _ _ => by simp) _ _,
      foldl_keeps State.poll _ (fun _ _ => by simp) _ _,
      foldl_keeps State.roster _ (fun _ _ => by simp) _ _,
      foldl_keeps State.pending _ (fun _ _ => by simp) _ _⟩

end Sys2Proof.Machine
end

