-- ==== Sys2Proof/Laws/Roster.lean ====
section
/-! SUPPORT. The frame of each operation of the roster: the blocks that it leaves as they were. -/

namespace Sys2Proof.Machine

variable (s : State)

@[simp] theorem moveContribution_frame (st : Station) (a b : Option Role) :
    (moveContribution st a b s).power = s.power ∧ (moveContribution st a b s).straps = s.straps ∧ (moveContribution st a b s).line = s.line
    ∧ (moveContribution st a b s).sched = s.sched ∧ (moveContribution st a b s).store = s.store ∧ (moveContribution st a b s).panel = s.panel
    ∧ (moveContribution st a b s).clock = s.clock ∧ (moveContribution st a b s).engine = s.engine ∧ (moveContribution st a b s).buzz = s.buzz
    ∧ (moveContribution st a b s).poll = s.poll ∧ (moveContribution st a b s).roster = s.roster ∧ (moveContribution st a b s).link = s.link
    ∧ (moveContribution st a b s).pending = s.pending := by
  unfold moveContribution
  refine ⟨?_, ?_, ?_, ?_, ?_, ?_, ?_, ?_, ?_, ?_, ?_, ?_, ?_⟩ <;> simp

@[simp] theorem setCode_frame (st : Station) (c : Role) :
    (setCode st c s).power = s.power ∧ (setCode st c s).straps = s.straps ∧ (setCode st c s).line = s.line
    ∧ (setCode st c s).sched = s.sched ∧ (setCode st c s).store = s.store ∧ (setCode st c s).panel = s.panel
    ∧ (setCode st c s).clock = s.clock ∧ (setCode st c s).engine = s.engine ∧ (setCode st c s).buzz = s.buzz
    ∧ (setCode st c s).poll = s.poll ∧ (setCode st c s).pending = s.pending := by
  unfold setCode
  refine ⟨?_, ?_, ?_, ?_, ?_, ?_, ?_, ?_, ?_, ?_, ?_⟩ <;> simp <;> (repeat' split) <;> simp

@[simp] theorem setPresent_frame (st : Station) :
    (setPresent st s).power = s.power ∧ (setPresent st s).straps = s.straps ∧ (setPresent st s).line = s.line
    ∧ (setPresent st s).sched = s.sched ∧ (setPresent st s).store = s.store ∧ (setPresent st s).panel = s.panel
    ∧ (setPresent st s).clock = s.clock ∧ (setPresent st s).engine = s.engine ∧ (setPresent st s).buzz = s.buzz
    ∧ (setPresent st s).poll = s.poll ∧ (setPresent st s).score = s.score ∧ (setPresent st s).link = s.link
    ∧ (setPresent st s).pending = s.pending := by
  unfold setPresent
  refine ⟨?_, ?_, ?_, ?_, ?_, ?_, ?_, ?_, ?_, ?_, ?_, ?_, ?_⟩ <;> (repeat' split) <;> simp

@[simp] theorem hearFrame_frame (f : RxEntry) :
    (hearFrame f s).power = s.power ∧ (hearFrame f s).straps = s.straps ∧ (hearFrame f s).line = s.line
    ∧ (hearFrame f s).sched = s.sched ∧ (hearFrame f s).store = s.store ∧ (hearFrame f s).panel = s.panel
    ∧ (hearFrame f s).clock = s.clock ∧ (hearFrame f s).engine = s.engine ∧ (hearFrame f s).buzz = s.buzz
    ∧ (hearFrame f s).poll = s.poll ∧ (hearFrame f s).pending = s.pending := by
  unfold hearFrame
  refine ⟨?_, ?_, ?_, ?_, ?_, ?_, ?_, ?_, ?_, ?_, ?_⟩ <;> (repeat' split) <;> simp

@[simp] theorem applyMark_frame (m : Byte) :
    (applyMark s m).power = s.power ∧ (applyMark s m).straps = s.straps ∧ (applyMark s m).line = s.line
    ∧ (applyMark s m).sched = s.sched ∧ (applyMark s m).store = s.store ∧ (applyMark s m).panel = s.panel
    ∧ (applyMark s m).clock = s.clock ∧ (applyMark s m).engine = s.engine ∧ (applyMark s m).buzz = s.buzz
    ∧ (applyMark s m).poll = s.poll ∧ (applyMark s m).pending = s.pending := by
  unfold applyMark
  refine ⟨?_, ?_, ?_, ?_, ?_, ?_, ?_, ?_, ?_, ?_, ?_⟩ <;> simp

@[simp] theorem census_frame (f : RxEntry) :
    (census f s).power = s.power ∧ (census f s).straps = s.straps ∧ (census f s).line = s.line
    ∧ (census f s).sched = s.sched ∧ (census f s).store = s.store ∧ (census f s).panel = s.panel
    ∧ (census f s).clock = s.clock ∧ (census f s).engine = s.engine ∧ (census f s).buzz = s.buzz
    ∧ (census f s).poll = s.poll ∧ (census f s).pending = s.pending := by
  have h : (f.marks.foldl applyMark s).power = s.power ∧ (f.marks.foldl applyMark s).straps = s.straps ∧ (f.marks.foldl applyMark s).line = s.line
    ∧ (f.marks.foldl applyMark s).sched = s.sched ∧ (f.marks.foldl applyMark s).store = s.store ∧ (f.marks.foldl applyMark s).panel = s.panel
    ∧ (f.marks.foldl applyMark s).clock = s.clock ∧ (f.marks.foldl applyMark s).engine = s.engine ∧ (f.marks.foldl applyMark s).buzz = s.buzz
    ∧ (f.marks.foldl applyMark s).poll = s.poll ∧ (f.marks.foldl applyMark s).pending = s.pending :=
    ⟨foldl_keeps State.power _ (fun _ _ => by simp) _ _,
      foldl_keeps State.straps _ (fun _ _ => by simp) _ _,
      foldl_keeps State.line _ (fun _ _ => by simp) _ _,
      foldl_keeps State.sched _ (fun _ _ => by simp) _ _,
      foldl_keeps State.store _ (fun _ _ => by simp) _ _,
      foldl_keeps State.panel _ (fun _ _ => by simp) _ _,
      foldl_keeps State.clock _ (fun _ _ => by simp) _ _,
      foldl_keeps State.engine _ (fun _ _ => by simp) _ _,
      foldl_keeps State.buzz _ (fun _ _ => by simp) _ _,
      foldl_keeps State.poll _ (fun _ _ => by simp) _ _,
      foldl_keeps State.pending _ (fun _ _ => by simp) _ _⟩
  unfold census
  split <;> simpa using h

@[simp] theorem helloOccasion_frame :
    (helloOccasion s).power = s.power ∧ (helloOccasion s).straps = s.straps ∧ (helloOccasion s).line = s.line
    ∧ (helloOccasion s).store = s.store ∧ (helloOccasion s).panel = s.panel ∧ (helloOccasion s).clock = s.clock
    ∧ (helloOccasion s).engine = s.engine ∧ (helloOccasion s).buzz = s.buzz ∧ (helloOccasion s).poll = s.poll
    ∧ (helloOccasion s).score = s.score ∧ (helloOccasion s).roster = s.roster ∧ (helloOccasion s).link = s.link
    ∧ (helloOccasion s).pending = s.pending := by
  unfold helloOccasion
  refine ⟨?_, ?_, ?_, ?_, ?_, ?_, ?_, ?_, ?_, ?_, ?_, ?_, ?_⟩ <;> (repeat' split) <;> simp

@[simp] theorem catchUpDone_frame (e r : List Station) :
    (catchUpDone e r s).power = s.power ∧ (catchUpDone e r s).straps = s.straps ∧ (catchUpDone e r s).line = s.line
    ∧ (catchUpDone e r s).sched = s.sched ∧ (catchUpDone e r s).panel = s.panel ∧ (catchUpDone e r s).clock = s.clock
    ∧ (catchUpDone e r s).engine = s.engine ∧ (catchUpDone e r s).buzz = s.buzz ∧ (catchUpDone e r s).poll = s.poll
    ∧ (catchUpDone e r s).score = s.score ∧ (catchUpDone e r s).pending = s.pending := by
  unfold catchUpDone
  refine ⟨?_, ?_, ?_, ?_, ?_, ?_, ?_, ?_, ?_, ?_, ?_⟩ <;> simp

@[simp] theorem abandonCatchUp_frame :
    (abandonCatchUp s).power = s.power ∧ (abandonCatchUp s).straps = s.straps ∧ (abandonCatchUp s).line = s.line
    ∧ (abandonCatchUp s).sched = s.sched ∧ (abandonCatchUp s).store = s.store ∧ (abandonCatchUp s).panel = s.panel
    ∧ (abandonCatchUp s).clock = s.clock ∧ (abandonCatchUp s).engine = s.engine ∧ (abandonCatchUp s).buzz = s.buzz
    ∧ (abandonCatchUp s).poll = s.poll ∧ (abandonCatchUp s).score = s.score ∧ (abandonCatchUp s).pending = s.pending := by
  unfold abandonCatchUp
  refine ⟨?_, ?_, ?_, ?_, ?_, ?_, ?_, ?_, ?_, ?_, ?_, ?_⟩ <;> (repeat' split) <;> simp

@[simp] theorem beginCatchUp_frame (f : RxEntry) :
    (beginCatchUp f s).power = s.power ∧ (beginCatchUp f s).straps = s.straps ∧ (beginCatchUp f s).line = s.line
    ∧ (beginCatchUp f s).sched = s.sched ∧ (beginCatchUp f s).panel = s.panel ∧ (beginCatchUp f s).clock = s.clock
    ∧ (beginCatchUp f s).engine = s.engine ∧ (beginCatchUp f s).buzz = s.buzz ∧ (beginCatchUp f s).poll = s.poll
    ∧ (beginCatchUp f s).score = s.score ∧ (beginCatchUp f s).pending = s.pending := by
  unfold beginCatchUp
  refine ⟨?_, ?_, ?_, ?_, ?_, ?_, ?_, ?_, ?_, ?_, ?_⟩ <;> simp <;> (repeat' split) <;> simp

@[simp] theorem dealHello_frame (f : RxEntry) :
    (dealHello f s).power = s.power ∧ (dealHello f s).straps = s.straps ∧ (dealHello f s).line = s.line
    ∧ (dealHello f s).panel = s.panel ∧ (dealHello f s).clock = s.clock ∧ (dealHello f s).engine = s.engine
    ∧ (dealHello f s).buzz = s.buzz ∧ (dealHello f s).poll = s.poll ∧ (dealHello f s).pending = s.pending := by
  unfold dealHello
  refine ⟨?_, ?_, ?_, ?_, ?_, ?_, ?_, ?_, ?_⟩ <;> simp <;> (repeat' split) <;> simp

@[simp] theorem dealRoll_frame (f : RxEntry) :
    (dealRoll f s).power = s.power ∧ (dealRoll f s).straps = s.straps ∧ (dealRoll f s).line = s.line
    ∧ (dealRoll f s).sched = s.sched ∧ (dealRoll f s).store = s.store ∧ (dealRoll f s).panel = s.panel
    ∧ (dealRoll f s).clock = s.clock ∧ (dealRoll f s).buzz = s.buzz ∧ (dealRoll f s).poll = s.poll
    ∧ (dealRoll f s).pending = s.pending := by
  unfold dealRoll
  refine ⟨?_, ?_, ?_, ?_, ?_, ?_, ?_, ?_, ?_, ?_⟩ <;> (repeat' split) <;> simp

@[simp] theorem adoptShow_frame (f : RxEntry) :
    (adoptShow f s).power = s.power ∧ (adoptShow f s).straps = s.straps ∧ (adoptShow f s).line = s.line
    ∧ (adoptShow f s).store = s.store ∧ (adoptShow f s).panel = s.panel ∧ (adoptShow f s).clock = s.clock
    ∧ (adoptShow f s).buzz = s.buzz ∧ (adoptShow f s).poll = s.poll ∧ (adoptShow f s).score = s.score
    ∧ (adoptShow f s).roster = s.roster ∧ (adoptShow f s).pending = s.pending := by
  unfold adoptShow
  refine ⟨?_, ?_, ?_, ?_, ?_, ?_, ?_, ?_, ?_, ?_, ?_⟩ <;> (repeat' split) <;> simp

@[simp] theorem receiveTally_frame (st : Station) :
    (receiveTally st s).power = s.power ∧ (receiveTally st s).straps = s.straps ∧ (receiveTally st s).line = s.line
    ∧ (receiveTally st s).sched = s.sched ∧ (receiveTally st s).panel = s.panel ∧ (receiveTally st s).clock = s.clock
    ∧ (receiveTally st s).engine = s.engine ∧ (receiveTally st s).buzz = s.buzz ∧ (receiveTally st s).poll = s.poll
    ∧ (receiveTally st s).score = s.score ∧ (receiveTally st s).pending = s.pending := by
  unfold receiveTally
  refine ⟨?_, ?_, ?_, ?_, ?_, ?_, ?_, ?_, ?_, ?_, ?_⟩ <;> simp <;> (repeat' split) <;> simp

@[simp] theorem dealTally_frame (f : RxEntry) :
    (dealTally f s).power = s.power ∧ (dealTally f s).straps = s.straps ∧ (dealTally f s).line = s.line
    ∧ (dealTally f s).panel = s.panel ∧ (dealTally f s).clock = s.clock ∧ (dealTally f s).buzz = s.buzz
    ∧ (dealTally f s).poll = s.poll ∧ (dealTally f s).pending = s.pending := by
  unfold dealTally
  refine ⟨?_, ?_, ?_, ?_, ?_, ?_, ?_, ?_⟩ <;> (repeat' split) <;> simp

end Sys2Proof.Machine
end

