-- ==== Sys2Proof/Laws/Round.lean ====
section
/-! SUPPORT. The frame of each operation of the round engine: the blocks that it leaves as they were. -/

namespace Sys2Proof.Machine

variable (s : State)

@[simp] theorem emptyBuzz_frame :
    (emptyBuzz s).power = s.power ∧ (emptyBuzz s).straps = s.straps ∧ (emptyBuzz s).line = s.line
    ∧ (emptyBuzz s).sched = s.sched ∧ (emptyBuzz s).store = s.store ∧ (emptyBuzz s).panel = s.panel
    ∧ (emptyBuzz s).clock = s.clock ∧ (emptyBuzz s).engine = s.engine ∧ (emptyBuzz s).poll = s.poll
    ∧ (emptyBuzz s).score = s.score ∧ (emptyBuzz s).roster = s.roster ∧ (emptyBuzz s).pending = s.pending := by
  unfold emptyBuzz
  refine ⟨?_, ?_, ?_, ?_, ?_, ?_, ?_, ?_, ?_, ?_, ?_, ?_⟩ <;> simp

@[simp] theorem emptyPoll_frame :
    (emptyPoll s).power = s.power ∧ (emptyPoll s).straps = s.straps ∧ (emptyPoll s).line = s.line
    ∧ (emptyPoll s).sched = s.sched ∧ (emptyPoll s).store = s.store ∧ (emptyPoll s).panel = s.panel
    ∧ (emptyPoll s).clock = s.clock ∧ (emptyPoll s).engine = s.engine ∧ (emptyPoll s).buzz = s.buzz
    ∧ (emptyPoll s).score = s.score ∧ (emptyPoll s).roster = s.roster ∧ (emptyPoll s).pending = s.pending := by
  unfold emptyPoll
  refine ⟨?_, ?_, ?_, ?_, ?_, ?_, ?_, ?_, ?_, ?_, ?_, ?_⟩ <;> simp

@[simp] theorem forgetQuestion_frame :
    (forgetQuestion s).power = s.power ∧ (forgetQuestion s).straps = s.straps ∧ (forgetQuestion s).line = s.line
    ∧ (forgetQuestion s).sched = s.sched ∧ (forgetQuestion s).store = s.store ∧ (forgetQuestion s).panel = s.panel
    ∧ (forgetQuestion s).clock = s.clock ∧ (forgetQuestion s).buzz = s.buzz ∧ (forgetQuestion s).poll = s.poll
    ∧ (forgetQuestion s).score = s.score ∧ (forgetQuestion s).roster = s.roster ∧ (forgetQuestion s).link = s.link
    ∧ (forgetQuestion s).pending = s.pending := by
  unfold forgetQuestion
  refine ⟨?_, ?_, ?_, ?_, ?_, ?_, ?_, ?_, ?_, ?_, ?_, ?_, ?_⟩ <;> simp

@[simp] theorem dropQuestion_frame :
    (dropQuestion s).power = s.power ∧ (dropQuestion s).straps = s.straps ∧ (dropQuestion s).line = s.line
    ∧ (dropQuestion s).sched = s.sched ∧ (dropQuestion s).store = s.store ∧ (dropQuestion s).panel = s.panel
    ∧ (dropQuestion s).score = s.score ∧ (dropQuestion s).roster = s.roster ∧ (dropQuestion s).pending = s.pending := by
  unfold dropQuestion
  refine ⟨?_, ?_, ?_, ?_, ?_, ?_, ?_, ?_, ?_⟩ <;> simp

@[simp] theorem enterClosed_frame :
    (enterClosed s).power = s.power ∧ (enterClosed s).straps = s.straps ∧ (enterClosed s).line = s.line
    ∧ (enterClosed s).store = s.store ∧ (enterClosed s).panel = s.panel ∧ (enterClosed s).clock = s.clock
    ∧ (enterClosed s).buzz = s.buzz ∧ (enterClosed s).poll = s.poll ∧ (enterClosed s).score = s.score
    ∧ (enterClosed s).roster = s.roster ∧ (enterClosed s).pending = s.pending := by
  unfold enterClosed
  refine ⟨?_, ?_, ?_, ?_, ?_, ?_, ?_, ?_, ?_, ?_, ?_⟩ <;> simp

@[simp] theorem endQuestion_frame :
    (endQuestion s).power = s.power ∧ (endQuestion s).straps = s.straps ∧ (endQuestion s).line = s.line
    ∧ (endQuestion s).store = s.store ∧ (endQuestion s).panel = s.panel ∧ (endQuestion s).score = s.score
    ∧ (endQuestion s).roster = s.roster ∧ (endQuestion s).pending = s.pending := by
  unfold endQuestion
  refine ⟨?_, ?_, ?_, ?_, ?_, ?_, ?_, ?_⟩ <;> simp

@[simp] theorem settleShow_frame (n : Nat) :
    (settleShow n s).power = s.power ∧ (settleShow n s).straps = s.straps ∧ (settleShow n s).line = s.line
    ∧ (settleShow n s).sched = s.sched ∧ (settleShow n s).panel = s.panel ∧ (settleShow n s).clock = s.clock
    ∧ (settleShow n s).buzz = s.buzz ∧ (settleShow n s).poll = s.poll ∧ (settleShow n s).score = s.score
    ∧ (settleShow n s).pending = s.pending := by
  unfold settleShow
  refine ⟨?_, ?_, ?_, ?_, ?_, ?_, ?_, ?_, ?_, ?_⟩ <;> (repeat' split) <;> simp

@[simp] theorem openQuestion_frame (f : RxEntry) :
    (openQuestion f s).power = s.power ∧ (openQuestion f s).straps = s.straps ∧ (openQuestion f s).line = s.line
    ∧ (openQuestion f s).score = s.score ∧ (openQuestion f s).pending = s.pending := by
  unfold openQuestion
  refine ⟨?_, ?_, ?_, ?_, ?_⟩ <;> (repeat' split) <;> simp

@[simp] theorem dealOpen_frame (f : RxEntry) :
    (dealOpen f s).power = s.power ∧ (dealOpen f s).straps = s.straps ∧ (dealOpen f s).line = s.line
    ∧ (dealOpen f s).score = s.score ∧ (dealOpen f s).pending = s.pending := by
  unfold dealOpen
  refine ⟨?_, ?_, ?_, ?_, ?_⟩ <;> (repeat' split) <;> simp

@[simp] theorem dealClose_frame (f : RxEntry) :
    (dealClose f s).power = s.power ∧ (dealClose f s).straps = s.straps ∧ (dealClose f s).line = s.line
    ∧ (dealClose f s).store = s.store ∧ (dealClose f s).panel = s.panel ∧ (dealClose f s).score = s.score
    ∧ (dealClose f s).roster = s.roster ∧ (dealClose f s).pending = s.pending := by
  unfold dealClose withQuestion
  refine ⟨?_, ?_, ?_, ?_, ?_, ?_, ?_, ?_⟩ <;> (repeat' split) <;> simp

@[simp] theorem haltQuestion_frame (f : RxEntry) (q : Question) :
    (haltQuestion f q s).power = s.power ∧ (haltQuestion f q s).straps = s.straps ∧ (haltQuestion f q s).line = s.line
    ∧ (haltQuestion f q s).sched = s.sched ∧ (haltQuestion f q s).store = s.store ∧ (haltQuestion f q s).panel = s.panel
    ∧ (haltQuestion f q s).buzz = s.buzz ∧ (haltQuestion f q s).poll = s.poll ∧ (haltQuestion f q s).score = s.score
    ∧ (haltQuestion f q s).roster = s.roster ∧ (haltQuestion f q s).pending = s.pending := by
  unfold haltQuestion
  refine ⟨?_, ?_, ?_, ?_, ?_, ?_, ?_, ?_, ?_, ?_, ?_⟩ <;> simp

@[simp] theorem resumeQuestion_frame (f : RxEntry) (q : Question) :
    (resumeQuestion f q s).power = s.power ∧ (resumeQuestion f q s).straps = s.straps ∧ (resumeQuestion f q s).line = s.line
    ∧ (resumeQuestion f q s).sched = s.sched ∧ (resumeQuestion f q s).store = s.store ∧ (resumeQuestion f q s).panel = s.panel
    ∧ (resumeQuestion f q s).buzz = s.buzz ∧ (resumeQuestion f q s).poll = s.poll ∧ (resumeQuestion f q s).score = s.score
    ∧ (resumeQuestion f q s).roster = s.roster ∧ (resumeQuestion f q s).pending = s.pending := by
  unfold resumeQuestion
  refine ⟨?_, ?_, ?_, ?_, ?_, ?_, ?_, ?_, ?_, ?_, ?_⟩ <;> simp

@[simp] theorem dealShow_frame (f : RxEntry) :
    (dealShow f s).power = s.power ∧ (dealShow f s).straps = s.straps ∧ (dealShow f s).line = s.line
    ∧ (dealShow f s).pending = s.pending := by
  unfold dealShow
  refine ⟨?_, ?_, ?_, ?_⟩ <;> (repeat' split) <;> simp

end Sys2Proof.Machine
end

