-- ==== Sys2Proof/Laws/Judging.lean ====
section
/-! SUPPORT. The frame of each operation of the buzz unit, the poll unit and the press gate: the blocks that it leaves as they were. -/

namespace Sys2Proof.Machine

variable (s : State)

@[simp] theorem judgeBuzzPress_frame (i : Seat) (e : Nat) (q : Question) :
    (judgeBuzzPress i e q s).power = s.power ∧ (judgeBuzzPress i e q s).straps = s.straps ∧ (judgeBuzzPress i e q s).line = s.line
    ∧ (judgeBuzzPress i e q s).store = s.store ∧ (judgeBuzzPress i e q s).clock = s.clock ∧ (judgeBuzzPress i e q s).engine = s.engine
    ∧ (judgeBuzzPress i e q s).buzz = s.buzz ∧ (judgeBuzzPress i e q s).poll = s.poll ∧ (judgeBuzzPress i e q s).score = s.score
    ∧ (judgeBuzzPress i e q s).roster = s.roster ∧ (judgeBuzzPress i e q s).link = s.link ∧ (judgeBuzzPress i e q s).pending = s.pending := by
  unfold judgeBuzzPress
  refine ⟨?_, ?_, ?_, ?_, ?_, ?_, ?_, ?_, ?_, ?_, ?_, ?_⟩ <;> (repeat' split) <;> simp

@[simp] theorem dealBuzz_frame (f : RxEntry) (q : Question) :
    (dealBuzz f q s).power = s.power ∧ (dealBuzz f q s).straps = s.straps ∧ (dealBuzz f q s).line = s.line
    ∧ (dealBuzz f q s).sched = s.sched ∧ (dealBuzz f q s).store = s.store ∧ (dealBuzz f q s).panel = s.panel
    ∧ (dealBuzz f q s).clock = s.clock ∧ (dealBuzz f q s).poll = s.poll ∧ (dealBuzz f q s).roster = s.roster
    ∧ (dealBuzz f q s).pending = s.pending := by
  unfold dealBuzz
  refine ⟨?_, ?_, ?_, ?_, ?_, ?_, ?_, ?_, ?_, ?_⟩ <;> simp <;> (repeat' split) <;> simp

@[simp] theorem verdictCorrect_frame (q : Question) (b : BuzzEntry) :
    (verdictCorrect q b s).power = s.power ∧ (verdictCorrect q b s).straps = s.straps ∧ (verdictCorrect q b s).line = s.line
    ∧ (verdictCorrect q b s).store = s.store ∧ (verdictCorrect q b s).roster = s.roster ∧ (verdictCorrect q b s).pending = s.pending := by
  unfold verdictCorrect
  refine ⟨?_, ?_, ?_, ?_, ?_, ?_⟩ <;> (repeat' split) <;> simp

@[simp] theorem verdictWrong_frame (q : Question) (b : BuzzEntry) :
    (verdictWrong q b s).power = s.power ∧ (verdictWrong q b s).straps = s.straps ∧ (verdictWrong q b s).line = s.line
    ∧ (verdictWrong q b s).store = s.store ∧ (verdictWrong q b s).panel = s.panel ∧ (verdictWrong q b s).clock = s.clock
    ∧ (verdictWrong q b s).engine = s.engine ∧ (verdictWrong q b s).poll = s.poll ∧ (verdictWrong q b s).roster = s.roster
    ∧ (verdictWrong q b s).pending = s.pending := by
  unfold verdictWrong
  refine ⟨?_, ?_, ?_, ?_, ?_, ?_, ?_, ?_, ?_, ?_⟩ <;> simp

@[simp] theorem verdictVoid_frame (b : BuzzEntry) :
    (verdictVoid b s).power = s.power ∧ (verdictVoid b s).straps = s.straps ∧ (verdictVoid b s).line = s.line
    ∧ (verdictVoid b s).sched = s.sched ∧ (verdictVoid b s).store = s.store ∧ (verdictVoid b s).clock = s.clock
    ∧ (verdictVoid b s).engine = s.engine ∧ (verdictVoid b s).poll = s.poll ∧ (verdictVoid b s).score = s.score
    ∧ (verdictVoid b s).roster = s.roster ∧ (verdictVoid b s).pending = s.pending := by
  unfold verdictVoid
  refine ⟨?_, ?_, ?_, ?_, ?_, ?_, ?_, ?_, ?_, ?_, ?_⟩ <;> (repeat' split) <;> simp

@[simp] theorem dealVerdict_frame (f : RxEntry) (q : Question) :
    (dealVerdict f q s).power = s.power ∧ (dealVerdict f q s).straps = s.straps ∧ (dealVerdict f q s).line = s.line
    ∧ (dealVerdict f q s).store = s.store ∧ (dealVerdict f q s).roster = s.roster ∧ (dealVerdict f q s).pending = s.pending := by
  unfold dealVerdict
  refine ⟨?_, ?_, ?_, ?_, ?_, ?_⟩ <;> (repeat' split) <;> simp

@[simp] theorem judgeChoicePress_frame (i : Seat) (c : Choice) (e : Nat) (q : Question) :
    (judgeChoicePress i c e q s).power = s.power ∧ (judgeChoicePress i c e q s).straps = s.straps ∧ (judgeChoicePress i c e q s).line = s.line
    ∧ (judgeChoicePress i c e q s).store = s.store ∧ (judgeChoicePress i c e q s).clock = s.clock ∧ (judgeChoicePress i c e q s).engine = s.engine
    ∧ (judgeChoicePress i c e q s).buzz = s.buzz ∧ (judgeChoicePress i c e q s).poll = s.poll ∧ (judgeChoicePress i c e q s).score = s.score
    ∧ (judgeChoicePress i c e q s).roster = s.roster ∧ (judgeChoicePress i c e q s).link = s.link ∧ (judgeChoicePress i c e q s).pending = s.pending := by
  unfold judgeChoicePress
  refine ⟨?_, ?_, ?_, ?_, ?_, ?_, ?_, ?_, ?_, ?_, ?_, ?_⟩ <;> (repeat' split) <;> simp

@[simp] theorem judgePress_frame (i : Seat) (p : Press) :
    (judgePress i p s).power = s.power ∧ (judgePress i p s).straps = s.straps ∧ (judgePress i p s).line = s.line
    ∧ (judgePress i p s).store = s.store ∧ (judgePress i p s).clock = s.clock ∧ (judgePress i p s).engine = s.engine
    ∧ (judgePress i p s).buzz = s.buzz ∧ (judgePress i p s).poll = s.poll ∧ (judgePress i p s).score = s.score
    ∧ (judgePress i p s).roster = s.roster ∧ (judgePress i p s).link = s.link ∧ (judgePress i p s).pending = s.pending := by
  unfold judgePress
  refine ⟨?_, ?_, ?_, ?_, ?_, ?_, ?_, ?_, ?_, ?_, ?_, ?_⟩ <;> (repeat' split) <;> simp

@[simp] theorem createPoll_frame (r : PollRecord) :
    (createPoll r s).power = s.power ∧ (createPoll r s).straps = s.straps ∧ (createPoll r s).line = s.line
    ∧ (createPoll r s).sched = s.sched ∧ (createPoll r s).store = s.store ∧ (createPoll r s).panel = s.panel
    ∧ (createPoll r s).clock = s.clock ∧ (createPoll r s).engine = s.engine ∧ (createPoll r s).buzz = s.buzz
    ∧ (createPoll r s).roster = s.roster ∧ (createPoll r s).pending = s.pending := by
  unfold createPoll
  refine ⟨?_, ?_, ?_, ?_, ?_, ?_, ?_, ?_, ?_, ?_, ?_⟩ <;> simp

@[simp] theorem replacePoll_frame (o n : PollRecord) :
    (replacePoll o n s).power = s.power ∧ (replacePoll o n s).straps = s.straps ∧ (replacePoll o n s).line = s.line
    ∧ (replacePoll o n s).sched = s.sched ∧ (replacePoll o n s).store = s.store ∧ (replacePoll o n s).panel = s.panel
    ∧ (replacePoll o n s).clock = s.clock ∧ (replacePoll o n s).engine = s.engine ∧ (replacePoll o n s).buzz = s.buzz
    ∧ (replacePoll o n s).score = s.score ∧ (replacePoll o n s).roster = s.roster ∧ (replacePoll o n s).link = s.link
    ∧ (replacePoll o n s).pending = s.pending := by
  unfold replacePoll
  refine ⟨?_, ?_, ?_, ?_, ?_, ?_, ?_, ?_, ?_, ?_, ?_, ?_, ?_⟩ <;> (repeat' split) <;> simp

@[simp] theorem judgeAnswer_frame (st : Station) (q : Question) (a : AnswerEntry) :
    (judgeAnswer st q s a).power = s.power ∧ (judgeAnswer st q s a).straps = s.straps ∧ (judgeAnswer st q s a).line = s.line
    ∧ (judgeAnswer st q s a).sched = s.sched ∧ (judgeAnswer st q s a).store = s.store ∧ (judgeAnswer st q s a).panel = s.panel
    ∧ (judgeAnswer st q s a).clock = s.clock ∧ (judgeAnswer st q s a).engine = s.engine ∧ (judgeAnswer st q s a).buzz = s.buzz
    ∧ (judgeAnswer st q s a).roster = s.roster ∧ (judgeAnswer st q s a).pending = s.pending := by
  unfold judgeAnswer
  refine ⟨?_, ?_, ?_, ?_, ?_, ?_, ?_, ?_, ?_, ?_, ?_⟩ <;> (repeat' split) <;> simp

@[simp] theorem dealAnswer_frame (f : RxEntry) (q : Question) :
    (dealAnswer f q s).power = s.power ∧ (dealAnswer f q s).straps = s.straps ∧ (dealAnswer f q s).line = s.line
    ∧ (dealAnswer f q s).sched = s.sched ∧ (dealAnswer f q s).store = s.store ∧ (dealAnswer f q s).panel = s.panel
    ∧ (dealAnswer f q s).clock = s.clock ∧ (dealAnswer f q s).engine = s.engine ∧ (dealAnswer f q s).buzz = s.buzz
    ∧ (dealAnswer f q s).roster = s.roster ∧ (dealAnswer f q s).pending = s.pending := by
  simp only [dealAnswer, raiseIf_frame]
  exact ⟨foldl_keeps State.power _ (fun _ _ => by simp) _ _,
      foldl_keeps State.straps _ (fun _ _ => by simp) _ _,
      foldl_keeps State.line _ (fun _ _ => by simp) _ _,
      foldl_keeps State.sched _ (fun _ _ => by simp) _ _,
      foldl_keeps State.store _ (fun _ _ => by simp) _ _,
      foldl_keeps State.panel _ (fun _ _ => by simp) _ _,
      foldl_keeps State.clock _ (fun _ _ => by simp) _ _,
      foldl_keeps State.engine _ (fun _ _ => by simp) _ _,
      foldl_keeps State.buzz _ (fun _ _ => by simp) _ _,
      foldl_keeps State.roster _ (fun _ _ => by simp) _ _,
      foldl_keeps State.pending _ (fun _ _ => by simp) _ _⟩

@[simp] theorem beginPass_frame (f : RxEntry) (set : ChoiceSet) :
    (beginPass f set s).power = s.power ∧ (beginPass f set s).straps = s.straps ∧ (beginPass f set s).line = s.line
    ∧ (beginPass f set s).store = s.store ∧ (beginPass f set s).buzz = s.buzz ∧ (beginPass f set s).poll = s.poll
    ∧ (beginPass f set s).score = s.score ∧ (beginPass f set s).roster = s.roster ∧ (beginPass f set s).pending = s.pending := by
  unfold beginPass
  refine ⟨?_, ?_, ?_, ?_, ?_, ?_, ?_, ?_, ?_⟩ <;> simp

@[simp] theorem dealReveal_frame (f : RxEntry) (q : Question) :
    (dealReveal f q s).power = s.power ∧ (dealReveal f q s).straps = s.straps ∧ (dealReveal f q s).line = s.line
    ∧ (dealReveal f q s).store = s.store ∧ (dealReveal f q s).score = s.score ∧ (dealReveal f q s).roster = s.roster
    ∧ (dealReveal f q s).pending = s.pending := by
  unfold dealReveal
  refine ⟨?_, ?_, ?_, ?_, ?_, ?_, ?_⟩ <;> simp <;> (repeat' split) <;> simp

end Sys2Proof.Machine
end

