-- ==== Sys2Proof/Laws/Turns.lean ====
section
/-! SUPPORT. What a turn of the round engine does: the frame at the front is heard, dealt with and released; and what
the notices raised make of the pending set. -/

namespace Sys2Proof.Machine

open Sys2Proof.Safety

variable {s : State} {f : RxEntry}

/-- A step's meaning where RESET does not hold the part and the effect has its occasion. -/
theorem event_next {effect : State → Option State} {t : State} (hheld : s.held = false) (h : effect s = some t) :
    event effect s = .next (settle t) := by
  simp [event, hheld, h]

/-- A step's meaning without its occasion. -/
theorem event_none {effect : State → Option State} (hheld : s.held = false) (h : effect s = none) :
    event effect s = .next s := by
  simp [event, hheld, h]

/-- The earlier of two items is one of them. -/
theorem earlier_eq_some {a b : Option (Work × Stamp)} {x : Work × Stamp} (h : earlier a b = some x) :
    a = some x ∨ b = some x := by
  unfold earlier at h
  split at h
  · split at h
    · exact .inr h
    · exact .inl h
  · exact .inl h
  · exact .inr h

/-- A frame's turn: it stands at the front, stored, with no pass in flight and the round not in SCORING. -/
theorem frontTurn_facts (h : frontTurn s f) :
    ∃ rest, s.store.queue = f :: rest ∧ f.claimed = false ∧ s.engine.pass = none ∧ s.engine.state ≠ .scoring := by
  obtain ⟨-, hq, hw⟩ := h
  cases hs : s.store.queue with
  | nil => simp [hs] at hq
  | cons g rest =>
    simp [hs] at hq
    subst hq
    have hf : (frameItem s).isSome = true := by
      unfold nextWork at hw
      simp only [Option.map_eq_some_iff] at hw
      obtain ⟨⟨w, t⟩, he, hwt⟩ := hw
      simp only at hwt
      subst hwt
      rcases earlier_eq_some he with h | h <;> rcases earlier_eq_some h with h | h <;>
        simp [Option.map_eq_some_iff] at h
      simp [h]
    unfold frameItem at hf
    simp only [hs] at hf
    split at hf
    · rename_i hc
      exact ⟨rest, rfl, by simpa using hc.1, by simpa using hc.2.1, hc.2.2.1⟩
    · simp at hf

/-- The engine takes the front frame of a kind in its turn: heard, dealt with, and released unless it began a pass. -/
theorem takeFront_turn {k : Kind} {deal : RxEntry → State → State} (h : frontTurn s f) (hk : f.kind = k) :
    event (takeFront k deal) s = .next (settle (
      if (deal f (hearFrame f s)).engine.pass.isSome then deal f (hearFrame f s)
      else releaseFront (deal f (hearFrame f s)))) := by
  obtain ⟨rest, hq, -, -, -⟩ := frontTurn_facts h
  exact event_next h.1 (by simp [takeFront, hq, h.2.2, hk, occasion])

/-- A frame whose dealing leaves no pass in flight is released in the same step. -/
theorem takeFront_released {k : Kind} {deal : RxEntry → State → State} (h : frontTurn s f) (hk : f.kind = k)
    (hp : (deal f (hearFrame f s)).engine.pass = none) :
    event (takeFront k deal) s = .next (settle (releaseFront (deal f (hearFrame f s)))) := by
  rw [takeFront_turn h hk, hp]
  rfl

/-- The question test passes a frame whose fault the table does not name. -/
theorem questionTest_ok {q : Question} (ho : openQuestionIs s q) (hf : questionFault s f = none) :
    questionTest f s = .ok q := by
  obtain ⟨h1, h2⟩ := ho
  unfold questionFault at hf
  simp only [h1, h2] at hf
  unfold questionTest
  simp only [h1, h2]
  revert hf
  cases hk : f.kind <;> cases ht : q.type <;> cases hs : s.engine.state <;>
    simp [questionOf, kindType, stateFits] <;> split <;> simp_all

/-- The question test refuses a frame with the reason that the table names. -/
theorem questionTest_error {why : Reason} (hf : questionFault s f = some why) : questionTest f s = .error why := by
  unfold questionFault at hf
  unfold questionTest
  revert hf
  cases hs : s.engine.state <;> cases hq : s.engine.question <;>
    simp [RoundState.isOpen, questionOf, kindType, stateFits] <;> (repeat' split) <;> simp_all

end Sys2Proof.Machine
end

