-- ==== Sys2Proof/Laws/Effects.lean ====
section
/-! SUPPORT. What each shared operation makes of the blocks that it changes: the lemmas to cite in place of unfolding
it. None is a simp lemma. -/

namespace Sys2Proof.Machine

open Sys2Proof.Safety

variable (s : State)

/-! ### Notices and conditions -/

/-- The bits that a conditional raising adds. -/
theorem raiseIf_link (c : Bool) (n : Notice) :
    (raiseIf c n s).link = { s.link with
      raised := s.link.raised ||| if c = true then BitVec.twoPow 7 (noticeBit n) else 0 } := by
  cases c <;> simp [raiseIf, raise]

theorem setCatchUp_roster (c : CatchUp) : (setCatchUp c s).roster = { s.roster with catchUp := c } := by
  simp [setCatchUp]

theorem setCatchUp_link (c : CatchUp) :
    (setCatchUp c s).link = { s.link with
      raised := s.link.raised
        ||| if s.roster.catchUp.state ≠ c.state then BitVec.twoPow 7 (noticeBit .catchUp) else 0 } := by
  simp [setCatchUp, raiseIf_link]

theorem setAdrift_store : (setAdrift s).store = { s.store with adrift := true } := by
  simp [setAdrift]

theorem setAdrift_roster : (setAdrift s).roster = { s.roster with catchUp := catchUpNone } := by
  simp [setAdrift, setCatchUp_roster]

theorem setAdrift_link :
    (setAdrift s).link = { s.link with
      raised := s.link.raised
        ||| (if s.store.adrift = false then BitVec.twoPow 7 (noticeBit .health) else 0)
        ||| if s.roster.catchUp.state ≠ .none then BitVec.twoPow 7 (noticeBit .catchUp) else 0 } := by
  simp [setAdrift, setCatchUp_link, raiseIf_link, catchUpNone]

theorem setHealth_store (h : Health) : (setHealth h s).store = { s.store with health := h } := by
  simp [setHealth]

theorem setHealth_link (h : Health) :
    (setHealth h s).link = { s.link with
      raised := s.link.raised
        ||| if s.store.health ≠ h then BitVec.twoPow 7 (noticeBit .health) else 0 } := by
  simp [setHealth, raiseIf_link]

/-- The decrease for a frame taken (R69, R70). -/
theorem subHealth_store : (subHealth s).store = fallenStore s.store := by
  unfold subHealth fallenStore
  split <;> rename_i h
  · rw [if_neg (fun g => h.elim g.1 fun h => absurd h (Nat.ne_of_gt g.2))]
  · rw [if_pos ⟨fun g => h (.inl g), Nat.pos_of_ne_zero fun g => h (.inr g)⟩]
    simp [setHealth]

/-- An increase, whatever the state and the count (R69 to R71). -/
theorem addHealth_store (n : Nat) : (addHealth n s).store = chargedStore n s.store := by
  unfold addHealth chargedStore
  split
  · rfl
  · simp only [Config.healthTop]
    split <;> simp [enterOff, setHealth, silence]

/-- An increase that stays within 255, outside OFF (R69, R70). -/
theorem addHealth_within (n : Nat) (ho : s.store.health ≠ .off) (hc : s.store.count + n ≤ Config.healthTop) :
    addHealth n s = setHealth (healthOf (s.store.count + n))
      { s with store := { s.store with count := s.store.count + n } } := by
  have : ¬Config.healthTop < s.store.count + n := by omega
  simp [addHealth, ho, this]

/-- An increase above 255 enters OFF (R69, R71). -/
theorem addHealth_above (n : Nat) (ho : s.store.health ≠ .off) (hc : Config.healthTop < s.store.count + n) :
    addHealth n s = enterOff s := by
  simp [addHealth, ho, hc]

/-- In OFF the count does not move (R69). -/
theorem addHealth_off (n : Nat) (ho : s.store.health = .off) : addHealth n s = s := by
  simp [addHealth, ho]

theorem enterOff_store :
    (enterOff s).store = { s.store with count := Config.healthTop, longIdles := 0, health := .off } := by
  simp [enterOff, setHealth_store]

theorem enterOff_line : (enterOff s).line = { s.line with tx := .silent, rx := stopDriving s.line.rx } := by
  simp [enterOff]

theorem enterOff_link :
    (enterOff s).link = { s.link with
      raised := s.link.raised
        ||| if s.store.health ≠ .off then BitVec.twoPow 7 (noticeBit .health) else 0 } := by
  by_cases h : s.store.health = .off <;> simp [enterOff, setHealth_link, h]

/-! ### The transmit queue -/

theorem purge_sched (p : TxEntry → Bool) :
    (purge p s).sched = { s.sched with queue := condemned p s.sched.queue } := by
  simp [purge, condemned, setQueue]

theorem questionChanged_sched (n : Option Nat) :
    (questionChanged n s).sched = {
      queue := condemned
        (fun e => decide (e.kind = .answer) || (decide (e.kind = .buzz) && decide (some e.question ≠ n))) s.sched.queue
      answers := [] } := by
  simp [questionChanged, purge_sched, setAnswers]

/-- Two purges are one. -/
theorem condemned_condemned (p q : TxEntry → Bool) (hq : ∀ e : TxEntry, q { e with discard := true } = q e)
    (l : List TxEntry) : condemned q (condemned p l) = condemned (fun e => p e || q e) l := by
  induction l with
  | nil => rfl
  | cons e l ih =>
    simp only [condemned] at ih ⊢
    have := hq e
    cases hp : p e <;> cases hi : e.inFlight <;> cases hqe : q e <;> simp_all

theorem showPurge_sched :
    (showPurge s).sched = {
      queue := condemned
        (fun e => decide (e.kind = .buzz) || decide (e.kind = .answer) || decide (e.kind = .tally)) s.sched.queue
      answers := [] } := by
  simp only [showPurge, purge_sched, questionChanged_sched]
  rw [condemned_condemned _ _ (fun _ => rfl)]
  congr 1
  congr 1
  funext e
  cases e.kind <;> rfl

theorem wrongPurge_sched (u : LockUnit) :
    (wrongPurge u s).sched = { s.sched with
      queue := condemned (fun e => decide (e.kind = .buzz)
        && belongs s.straps.station (keySeat e.key) (teamOf (some s.straps.role)) u) s.sched.queue } := by
  simp only [wrongPurge, purge_sched]
  congr 2
  funext e
  cases u with
  | seat st i => simp [belongs, eq_comm]
  | station st => simp [belongs, eq_comm]
  | team t => cases s.straps.role <;> simp [belongs, teamOf]

/-- An entry is placed in key order wherever there is room (R41, R42). -/
theorem place_room (e : TxEntry) (h : s.sched.queue.length < Config.transmitPlaces) :
    place e s = setQueue (insertByKey e s.sched.queue) s := by
  simp [place, queueFull, Nat.not_le.mpr h]

theorem place_full (e : TxEntry) (h : Config.transmitPlaces ≤ s.sched.queue.length) : place e s = s := by
  simp [place, queueFull, h]

theorem stands_iff (k : Kind) : stands k s = true ↔ ∃ e ∈ s.sched.queue, e.kind = k := by
  simp [stands]

/-- What a request for a HELLO makes of the scheduler, where its occasion stands (R42, R172). -/
theorem requestHello_sched (due : Bool) :
    (if due then requestHello s else s).sched = helloIf due s.straps.station s.sched := by
  cases due with
  | false => simp [helloIf]
  | true =>
    by_cases hs : stands .hello s = true
    · have : ¬∀ e ∈ s.sched.queue, e.kind ≠ .hello := by
        obtain ⟨e, he, hk⟩ := (stands_iff s .hello).mp hs
        exact fun h => h e he hk
      simp [helloIf, requestHello, hs, this]
    · have : ∀ e ∈ s.sched.queue, e.kind ≠ .hello := fun e he hk => hs ((stands_iff s .hello).mpr ⟨e, he, hk⟩)
      rw [if_pos rfl, requestHello, if_neg hs]
      by_cases hl : s.sched.queue.length < 12
      · rw [helloIf, if_pos ⟨rfl, this, hl⟩, place_room s _ hl]
        rfl
      · rw [helloIf, if_neg (fun h => hl h.2.2), place_full s _ (Nat.le_of_not_lt hl)]

/-! ### Verdicts -/

/-- A verdict acted on is `actVerdict` with the reading kept, and then the settling (R16, R17, R60). -/
theorem actsOn_exec {w : Window} {v : Verdict} {stamp : Stamp} {c : Instr} {s : State} (h : actsOn w v stamp c s) :
    exec c s = .next (settle (actVerdict v w stamp s)) := by
  obtain ⟨hh, hw, ht, ⟨hv, rfl⟩ | ⟨hv, rfl, fh, bh, rfl, rfl⟩⟩ := h
  · simp [exec, execHeldVerdictActed, event, heldVerdictEffect, occasion, hh, hw, hv, ht]
  · have hr : readVerdict (fh || w.drivesFault) (bh || w.drivesBusy) = verdictOf w fh bh := by
      cases hd : w.driven <;> cases hc : w.decision <;> cases fh <;> cases bh
        <;> simp [readVerdict, verdictOf, Window.drivesFault, Window.drivesBusy, hd, hc]
    simp [exec, execVerdict, event, verdictEffect, occasion, hh, hw, hv, ht, hr]

/-- A taken clean frame is judged by the own outcome, the take and the move of the receiver alone (R16, R60). -/
theorem actVerdict_clean {w : Window} {k : Kind} {s : State} (stamp : Stamp) (h : readsClean w k) :
    actVerdict .taken w stamp s
      = leaveWindow .taken w (takeFrame (awaitsVerdict s) w.frame stamp
          (if awaitsVerdict s then delivered s else s)) := by
  simp [actVerdict, h.1, h.2.1, faultsFound, ownOutcome]

/-! ### Ending a question -/

theorem tallyEmpty_eq : tallyEmpty s = decide (s.poll.tally = Vector.replicate 4 0) := by
  have h : ∀ v : Vector Nat 4, (v.toList.all fun n => n == 0) = decide (v = Vector.replicate 4 0) := by
    intro v
    rw [Bool.eq_iff_iff, List.all_eq_true, decide_eq_true_iff]
    constructor
    · intro h
      ext i hi
      simpa using h v[i] (by simp)
    · rintro rfl x hx
      simpa using (by simpa [Vector.toList] using hx : x = 0)
  exact h _

theorem emptyBuzz_buzz : (emptyBuzz s).buzz = { s.buzz with queue := [] } := by
  simp [emptyBuzz]

theorem emptyBuzz_link :
    (emptyBuzz s).link = { s.link with
      raised := s.link.raised
        ||| if s.buzz.queue ≠ [] then BitVec.twoPow 7 (noticeBit .floor) else 0 } := by
  simp [emptyBuzz, raiseIf_link]

theorem emptyPoll_poll : (emptyPoll s).poll = pollStart := by
  simp [emptyPoll]

theorem emptyPoll_link :
    (emptyPoll s).link = { s.link with
      raised := s.link.raised
        ||| if s.poll.tally ≠ Vector.replicate 4 0 then BitVec.twoPow 7 (noticeBit .poll) else 0 } := by
  simp [emptyPoll, raiseIf_link, tallyEmpty_eq]

theorem dropQuestion_engine :
    (dropQuestion s).engine = { s.engine with
      lastNo := (s.engine.question.map (·.number)).getD s.engine.lastNo, question := none, pass := none } := by
  simp [dropQuestion, forgetQuestion]

theorem dropQuestion_buzz : (dropQuestion s).buzz = { s.buzz with queue := [] } := by
  simp [dropQuestion, emptyBuzz_buzz]

theorem dropQuestion_poll : (dropQuestion s).poll = pollStart := by
  simp [dropQuestion, emptyPoll_poll]

theorem dropQuestion_clock : (dropQuestion s).clock = { s.clock with timer := timerStart } := by
  simp [dropQuestion]

theorem dropQuestion_link :
    (dropQuestion s).link = { s.link with
      raised := s.link.raised
        ||| (if s.buzz.queue ≠ [] then BitVec.twoPow 7 (noticeBit .floor) else 0)
        ||| if s.poll.tally ≠ Vector.replicate 4 0 then BitVec.twoPow 7 (noticeBit .poll) else 0 } := by
  simp [dropQuestion, emptyPoll_link, emptyBuzz_link]

theorem helloOccasion_sched :
    (helloOccasion s).sched
      = helloIf (s.store.adrift && decide (s.roster.catchUp.state = .none)) s.straps.station s.sched :=
  requestHello_sched s _

theorem enterClosed_engine : (enterClosed s).engine = { s.engine with state := .closed } := by
  simp [enterClosed]

theorem enterClosed_link :
    (enterClosed s).link = { s.link with raised := s.link.raised ||| BitVec.twoPow 7 (noticeBit .round) } := by
  simp [enterClosed]

theorem enterClosed_sched :
    (enterClosed s).sched
      = helloIf (s.store.adrift && decide (s.roster.catchUp.state = .none)) s.straps.station s.sched :=
  helloOccasion_sched _

/-- The ending of a question is what R108 says of it. -/
theorem endQuestion_ended (q : Question) (hq : s.engine.question = some q) : ended s q (endQuestion s) := by
  refine ⟨by simp [changesOnly], ?_, ?_, ?_, ?_, ?_, ?_⟩
  · simp [endQuestion, enterClosed_engine, dropQuestion_engine, hq]
  · simp [endQuestion, dropQuestion_buzz]
  · simp [endQuestion, dropQuestion_poll, pollStart]
  · simp [endQuestion, dropQuestion_clock, timerStart]
  · simp [endQuestion, enterClosed_sched, questionChanged_sched, Bool.or_comm]
  · simp only [onlyRaises, endQuestion, enterClosed_link, questionChanged_frame, dropQuestion_link, pendingOf,
      decide_eq_true_eq, if_true]
    simp [BitVec.or_assoc]

/-! ### Scores and standings -/

theorem recompute_score : (recompute s).score = { s.score with standings := standingsOf s } := by
  simp [recompute]

theorem recompute_link :
    (recompute s).link = { s.link with
      raised := s.link.raised
        ||| if standingsOf s ≠ s.score.standings then BitVec.twoPow 7 (noticeBit .standings) else 0 } := by
  simp [recompute, raiseIf_link]

/-- The standings depend on the records, the team totals and the codes of the roster alone (R154, R164). -/
theorem standingsOf_congr {a b : State} (h1 : a.score.records = b.score.records) (h2 : a.score.totals = b.score.totals)
    (h3 : ∀ st, (rosterOf a st).code = (rosterOf b st).code) : standingsOf a = standingsOf b := by
  have h : teamListed a = teamListed b := by
    funext t
    simp only [teamListed, h1]
    congr 1
    funext r
    rw [decide_eq_decide]
    simp only [attachedTeam, h3]
  simp only [standingsOf, h, h2]

/-- A team total after a move. -/
theorem moveTotal_totals (t : Option Team) (d : Int) (k : Team) :
    (moveTotal t d s).score.totals[k] = s.score.totals[k] + if t = some k then d else 0 := by
  cases t with
  | none => simp [moveTotal]
  | some t =>
    by_cases h : t = k
    · subst h
      simp [moveTotal, putAt]
    · have : t.val ≠ k.val := fun e => h (Fin.ext e)
      simp [moveTotal, putAt, h, this]

theorem moveTotal_records (t : Option Team) (d : Int) : (moveTotal t d s).score.records = s.score.records := by
  cases t <;> rfl

theorem moveTotal_standings (t : Option Team) (d : Int) :
    (moveTotal t d s).score.standings = s.score.standings := by
  cases t <;> rfl

/-- In an ordered list, the records of a seat are the one that is found (R151). -/
theorem ordered_unique {l : List SeatRecord} (h : recordsOrdered l) {a b : SeatRecord} (ha : a ∈ l) (hb : b ∈ l)
    (h1 : a.station = b.station) (h2 : a.seat = b.seat) : a = b := by
  induction l with
  | nil => cases ha
  | cons x l ih =>
    simp only [recordsOrdered, List.pairwise_cons] at h
    rcases List.mem_cons.mp ha with rfl | ha' <;> rcases List.mem_cons.mp hb with rfl | hb'
    · rfl
    · rcases h.1 b hb' with h' | h' <;> simp_all
    · rcases h.1 a ha' with h' | h' <;> simp_all
    · exact ih h.2 ha' hb'

/-- The record found for a seat is one of the table, of that seat. -/
theorem recordOf_some {st : Station} {seat : Seat} {r : SeatRecord} (h : recordOf s st seat = some r) :
    r ∈ s.score.records ∧ r.station = st ∧ r.seat = seat := by
  have h1 := List.mem_of_find?_eq_some h
  have h2 := List.find?_some h
  simp at h2
  exact ⟨h1, h2⟩

/-- A record rewritten and the list recomputed, in an ordered table: R158 with R154 and R164. -/
theorem rewriteRecord_scored {st : Station} {seat : Seat} {r : SeatRecord} (g : SeatRecord → SeatRecord)
    (ho : recordsOrdered s.score.records) (h : recordOf s st seat = some r) :
    seatScored s r (g r) (recompute (rewriteRecord st seat g s)) := by
  obtain ⟨hm, h1, h2⟩ := recordOf_some s h
  refine ⟨?_, ?_, ?_⟩
  · simp only [recompute_score, rewriteRecord, h, moveTotal_records, replaceRecord_score]
    apply List.map_congr_left
    intro x hx
    subst h1 h2
    split
    · rename_i hc
      rw [ordered_unique ho hx hm hc.1 hc.2]
    · rfl
  · intro k
    simp only [recompute_score, rewriteRecord, h, moveTotal_totals, replaceRecord_score, h1]
  · rw [recompute_score]
    exact standingsOf_congr (by simp [recompute_score]) (by simp [recompute_score]) (by simp [rosterOf])

end Sys2Proof.Machine
end

