-- ==== Sys2Proof/Laws/Line.lean ====
section
/-! SUPPORT. The frame of each operation of the receive store and the line interface: the blocks that it leaves as they were. -/

namespace Sys2Proof.Machine

variable (s : State)

/-! ### The line character (R2) -/

@[simp] theorem lineByte_lineChar (b : Byte) : lineByte (lineChar b) = b := by
  revert b
  decide +kernel

@[simp] theorem lineFraming_lineChar (b : Byte) : lineFraming (lineChar b) = false := by
  revert b
  decide +kernel

/-! ### The receive store and the line interface -/

@[simp] theorem storeFrame_frame (f : RxEntry) :
    (storeFrame f s).power = s.power ∧ (storeFrame f s).straps = s.straps ∧ (storeFrame f s).line = s.line
    ∧ (storeFrame f s).sched = s.sched ∧ (storeFrame f s).panel = s.panel ∧ (storeFrame f s).clock = s.clock
    ∧ (storeFrame f s).engine = s.engine ∧ (storeFrame f s).buzz = s.buzz ∧ (storeFrame f s).poll = s.poll
    ∧ (storeFrame f s).score = s.score ∧ (storeFrame f s).pending = s.pending := by
  unfold storeFrame
  refine ⟨?_, ?_, ?_, ?_, ?_, ?_, ?_, ?_, ?_, ?_, ?_⟩ <;> (repeat' split) <;> simp

@[simp] theorem twinTest_frame (own : Bool) (k : Key) :
    (twinTest own k s).power = s.power ∧ (twinTest own k s).straps = s.straps ∧ (twinTest own k s).sched = s.sched
    ∧ (twinTest own k s).panel = s.panel ∧ (twinTest own k s).clock = s.clock ∧ (twinTest own k s).engine = s.engine
    ∧ (twinTest own k s).buzz = s.buzz ∧ (twinTest own k s).poll = s.poll ∧ (twinTest own k s).score = s.score
    ∧ (twinTest own k s).roster = s.roster ∧ (twinTest own k s).pending = s.pending := by
  unfold twinTest
  refine ⟨?_, ?_, ?_, ?_, ?_, ?_, ?_, ?_, ?_, ?_, ?_⟩ <;> (repeat' split) <;> simp

@[simp] theorem takeFrame_frame (own : Bool) (f : Partial) (st : Stamp) :
    (takeFrame own f st s).power = s.power ∧ (takeFrame own f st s).straps = s.straps ∧ (takeFrame own f st s).sched = s.sched
    ∧ (takeFrame own f st s).panel = s.panel ∧ (takeFrame own f st s).clock = s.clock ∧ (takeFrame own f st s).engine = s.engine
    ∧ (takeFrame own f st s).buzz = s.buzz ∧ (takeFrame own f st s).poll = s.poll ∧ (takeFrame own f st s).score = s.score
    ∧ (takeFrame own f st s).pending = s.pending := by
  unfold takeFrame
  refine ⟨?_, ?_, ?_, ?_, ?_, ?_, ?_, ?_, ?_, ?_⟩ <;> (repeat' split) <;> simp

@[simp] theorem ownOutcome_frame (v : Verdict) :
    (ownOutcome v s).power = s.power ∧ (ownOutcome v s).straps = s.straps ∧ (ownOutcome v s).panel = s.panel
    ∧ (ownOutcome v s).clock = s.clock ∧ (ownOutcome v s).engine = s.engine ∧ (ownOutcome v s).buzz = s.buzz
    ∧ (ownOutcome v s).poll = s.poll ∧ (ownOutcome v s).score = s.score ∧ (ownOutcome v s).roster = s.roster
    ∧ (ownOutcome v s).pending = s.pending := by
  unfold ownOutcome
  refine ⟨?_, ?_, ?_, ?_, ?_, ?_, ?_, ?_, ?_, ?_⟩ <;> (repeat' split) <;> simp

@[simp] theorem faultsFound_frame (own : Bool) (f : Partial) :
    (faultsFound own f s).power = s.power ∧ (faultsFound own f s).straps = s.straps ∧ (faultsFound own f s).sched = s.sched
    ∧ (faultsFound own f s).panel = s.panel ∧ (faultsFound own f s).clock = s.clock ∧ (faultsFound own f s).engine = s.engine
    ∧ (faultsFound own f s).buzz = s.buzz ∧ (faultsFound own f s).poll = s.poll ∧ (faultsFound own f s).score = s.score
    ∧ (faultsFound own f s).roster = s.roster ∧ (faultsFound own f s).pending = s.pending := by
  unfold faultsFound
  refine ⟨?_, ?_, ?_, ?_, ?_, ?_, ?_, ?_, ?_, ?_, ?_⟩ <;> (repeat' split) <;> simp

@[simp] theorem leaveWindow_frame (v : Verdict) (w : Window) :
    (leaveWindow v w s).power = s.power ∧ (leaveWindow v w s).straps = s.straps ∧ (leaveWindow v w s).sched = s.sched
    ∧ (leaveWindow v w s).store = s.store ∧ (leaveWindow v w s).panel = s.panel ∧ (leaveWindow v w s).clock = s.clock
    ∧ (leaveWindow v w s).engine = s.engine ∧ (leaveWindow v w s).buzz = s.buzz ∧ (leaveWindow v w s).poll = s.poll
    ∧ (leaveWindow v w s).score = s.score ∧ (leaveWindow v w s).roster = s.roster ∧ (leaveWindow v w s).link = s.link
    ∧ (leaveWindow v w s).pending = s.pending := by
  unfold leaveWindow
  refine ⟨?_, ?_, ?_, ?_, ?_, ?_, ?_, ?_, ?_, ?_, ?_, ?_, ?_⟩ <;> (repeat' split) <;> simp

@[simp] theorem actVerdict_frame (v : Verdict) (w : Window) (st : Stamp) :
    (actVerdict v w st s).power = s.power ∧ (actVerdict v w st s).straps = s.straps ∧ (actVerdict v w st s).panel = s.panel
    ∧ (actVerdict v w st s).clock = s.clock ∧ (actVerdict v w st s).engine = s.engine ∧ (actVerdict v w st s).buzz = s.buzz
    ∧ (actVerdict v w st s).poll = s.poll ∧ (actVerdict v w st s).score = s.score ∧ (actVerdict v w st s).pending = s.pending := by
  unfold actVerdict
  refine ⟨?_, ?_, ?_, ?_, ?_, ?_, ?_, ?_, ?_⟩ <;> (repeat' split) <;> simp <;> (repeat' split) <;> simp

@[simp] theorem openWindow_frame (f : Partial) (d : Decision) :
    (openWindow f d s).power = s.power ∧ (openWindow f d s).straps = s.straps ∧ (openWindow f d s).sched = s.sched
    ∧ (openWindow f d s).panel = s.panel ∧ (openWindow f d s).clock = s.clock ∧ (openWindow f d s).engine = s.engine
    ∧ (openWindow f d s).buzz = s.buzz ∧ (openWindow f d s).poll = s.poll ∧ (openWindow f d s).score = s.score
    ∧ (openWindow f d s).roster = s.roster ∧ (openWindow f d s).link = s.link ∧ (openWindow f d s).pending = s.pending := by
  unfold openWindow
  refine ⟨?_, ?_, ?_, ?_, ?_, ?_, ?_, ?_, ?_, ?_, ?_, ?_⟩ <;> (repeat' split) <;> simp

@[simp] theorem goDominant_frame :
    (goDominant s).power = s.power ∧ (goDominant s).straps = s.straps ∧ (goDominant s).sched = s.sched
    ∧ (goDominant s).store = s.store ∧ (goDominant s).panel = s.panel ∧ (goDominant s).clock = s.clock
    ∧ (goDominant s).engine = s.engine ∧ (goDominant s).buzz = s.buzz ∧ (goDominant s).poll = s.poll
    ∧ (goDominant s).score = s.score ∧ (goDominant s).roster = s.roster ∧ (goDominant s).link = s.link
    ∧ (goDominant s).pending = s.pending := by
  unfold goDominant
  refine ⟨?_, ?_, ?_, ?_, ?_, ?_, ?_, ?_, ?_, ?_, ?_, ?_, ?_⟩ <;> (repeat' split) <;> simp

/-- Everything that `followEdge` can do: the receiver alone moves, to HUNT. -/
theorem followEdge_eq :
    followEdge s = { s with line := { s.line with
      rx := if (s.line.tx = .ready ∨ s.line.tx = .defer) ∧ s.line.rx = .waitIdle then .hunt else s.line.rx } } := by
  unfold followEdge
  split <;> rfl

@[simp] theorem followEdge_frame :
    (followEdge s).power = s.power ∧ (followEdge s).straps = s.straps ∧ (followEdge s).sched = s.sched
    ∧ (followEdge s).store = s.store ∧ (followEdge s).panel = s.panel ∧ (followEdge s).clock = s.clock
    ∧ (followEdge s).engine = s.engine ∧ (followEdge s).buzz = s.buzz ∧ (followEdge s).poll = s.poll
    ∧ (followEdge s).score = s.score ∧ (followEdge s).roster = s.roster ∧ (followEdge s).link = s.link
    ∧ (followEdge s).pending = s.pending := by
  simp [followEdge_eq]

@[simp] theorem countSent_frame :
    (countSent s).power = s.power ∧ (countSent s).straps = s.straps ∧ (countSent s).sched = s.sched
    ∧ (countSent s).store = s.store ∧ (countSent s).panel = s.panel ∧ (countSent s).clock = s.clock
    ∧ (countSent s).engine = s.engine ∧ (countSent s).buzz = s.buzz ∧ (countSent s).poll = s.poll
    ∧ (countSent s).score = s.score ∧ (countSent s).roster = s.roster ∧ (countSent s).link = s.link
    ∧ (countSent s).pending = s.pending := by
  unfold countSent
  refine ⟨?_, ?_, ?_, ?_, ?_, ?_, ?_, ?_, ?_, ?_, ?_, ?_, ?_⟩ <;> (repeat' split) <;> simp

@[simp] theorem countLongIdle_frame :
    (countLongIdle s).power = s.power ∧ (countLongIdle s).straps = s.straps ∧ (countLongIdle s).line = s.line
    ∧ (countLongIdle s).sched = s.sched ∧ (countLongIdle s).panel = s.panel ∧ (countLongIdle s).clock = s.clock
    ∧ (countLongIdle s).engine = s.engine ∧ (countLongIdle s).buzz = s.buzz ∧ (countLongIdle s).poll = s.poll
    ∧ (countLongIdle s).score = s.score ∧ (countLongIdle s).roster = s.roster ∧ (countLongIdle s).pending = s.pending := by
  unfold countLongIdle
  refine ⟨?_, ?_, ?_, ?_, ?_, ?_, ?_, ?_, ?_, ?_, ?_, ?_⟩ <;> (repeat' split) <;> simp

@[simp] theorem frameChar_frame (f : Partial) (c : Byte) (fr : Bool) :
    (frameChar f c fr s).power = s.power ∧ (frameChar f c fr s).straps = s.straps ∧ (frameChar f c fr s).sched = s.sched
    ∧ (frameChar f c fr s).panel = s.panel ∧ (frameChar f c fr s).clock = s.clock ∧ (frameChar f c fr s).engine = s.engine
    ∧ (frameChar f c fr s).buzz = s.buzz ∧ (frameChar f c fr s).poll = s.poll ∧ (frameChar f c fr s).score = s.score
    ∧ (frameChar f c fr s).roster = s.roster ∧ (frameChar f c fr s).link = s.link ∧ (frameChar f c fr s).pending = s.pending := by
  unfold frameChar
  refine ⟨?_, ?_, ?_, ?_, ?_, ?_, ?_, ?_, ?_, ?_, ?_, ?_⟩ <;> simp <;> (repeat' split) <;> simp

@[simp] theorem receiveChar_frame (c : Byte) (fr : Bool) :
    (receiveChar c fr s).power = s.power ∧ (receiveChar c fr s).straps = s.straps ∧ (receiveChar c fr s).sched = s.sched
    ∧ (receiveChar c fr s).panel = s.panel ∧ (receiveChar c fr s).clock = s.clock ∧ (receiveChar c fr s).engine = s.engine
    ∧ (receiveChar c fr s).buzz = s.buzz ∧ (receiveChar c fr s).poll = s.poll ∧ (receiveChar c fr s).score = s.score
    ∧ (receiveChar c fr s).roster = s.roster ∧ (receiveChar c fr s).link = s.link ∧ (receiveChar c fr s).pending = s.pending := by
  unfold receiveChar
  refine ⟨?_, ?_, ?_, ?_, ?_, ?_, ?_, ?_, ?_, ?_, ?_, ?_⟩ <;> (repeat' split) <;> simp <;> (repeat' split) <;> simp

@[simp] theorem endTail_frame (marks : List Byte) (cut : Bool) (next : Receiver) :
    (endTail marks cut next s).power = s.power ∧ (endTail marks cut next s).straps = s.straps ∧ (endTail marks cut next s).sched = s.sched
    ∧ (endTail marks cut next s).panel = s.panel ∧ (endTail marks cut next s).clock = s.clock ∧ (endTail marks cut next s).engine = s.engine
    ∧ (endTail marks cut next s).buzz = s.buzz ∧ (endTail marks cut next s).poll = s.poll ∧ (endTail marks cut next s).score = s.score
    ∧ (endTail marks cut next s).roster = s.roster ∧ (endTail marks cut next s).link = s.link ∧ (endTail marks cut next s).pending = s.pending := by
  unfold endTail
  refine ⟨?_, ?_, ?_, ?_, ?_, ?_, ?_, ?_, ?_, ?_, ?_, ?_⟩ <;> simp

@[simp] theorem clearOwn_frame :
    (clearOwn s).power = s.power ∧ (clearOwn s).straps = s.straps ∧ (clearOwn s).store = s.store
    ∧ (clearOwn s).panel = s.panel ∧ (clearOwn s).clock = s.clock ∧ (clearOwn s).engine = s.engine
    ∧ (clearOwn s).buzz = s.buzz ∧ (clearOwn s).poll = s.poll ∧ (clearOwn s).score = s.score
    ∧ (clearOwn s).roster = s.roster ∧ (clearOwn s).link = s.link ∧ (clearOwn s).pending = s.pending := by
  unfold clearOwn
  refine ⟨?_, ?_, ?_, ?_, ?_, ?_, ?_, ?_, ?_, ?_, ?_, ?_⟩ <;> simp

end Sys2Proof.Machine
end

