-- ==== Sys2Proof/Tests/Slice0.lean ====
section
/-! SUPPORT. Tests: ill-formed commands refused, the manual's worked cases, and for every statement with hypotheses a
state and operands that meet them. -/

namespace Sys2Proof.Tests

set_option Elab.async false

open Machine Safety

/-! ### Ill-formed commands -/

theorem test_abandon_of_a_whole_record_is_refused :
    wellFormed (.recordAbandon [uartChar 0xA5, uartChar 0x01, uartChar 0x00]) = false := by decide

theorem test_abandon_of_nothing_is_refused : wellFormed (.recordAbandon [uartChar 0x01]) = false := by decide

theorem test_abandon_without_a_start_bit_is_refused :
    wellFormed (.recordAbandon [uartChar 0xA5, uartChar 0x01 ||| 1]) = false := by decide

theorem test_abandon_inside_a_body_is_well_formed :
    wellFormed (.recordAbandon [uartChar 0xA5, uartChar 0x12, uartChar 0x07, uartChar 0x01]) = true := by decide

theorem test_malformed_record_that_is_a_command_is_refused : wellFormed (.malformedRecord 0x13 0x02) = false := by
  decide

theorem test_malformed_record_of_wrong_length_is_well_formed : wellFormed (.malformedRecord 0x13 0x01) = true := by
  decide

theorem test_dominant_end_without_busy_half_is_refused : wellFormed (.verdict true false true) = false := by decide

/-! ### States -/

/-- Desk station 5 of team 2 with three seats, right after power-up. -/
def desk : State := startWith { station := 5, role := .desk 1, seatCount := 3, fast := false } []

/-- Presenter station 0, right after power-up. -/
def lectern : State := State.reset

/-- Question 3: W = 20, L = 5, scope DESK, mode LAST, four choices. -/
def question (t : QuestionType) : Question :=
  { number := 3, type := t, base := 100, penalty := 50, stake := 1, windowMs := 20000, lead := 5, scope := .desk
    mode := .last, choices := 4, modeByte := 0x34 }

/-- Question 3 open in show 1, taken at 1000, with the clock at 5000. -/
def asking (t : QuestionType) (s : State) : State :=
  { s with
    engine := { s.engine with state := .opened, showNo := 1, question := some (question t) }
    clock := { s.clock with now := 5000, timer := Timer.begin 1000 20000 5 5000 } }

/-- A stored frame of station 9 or another, stamped 4000. -/
def frame (k : Kind) (order : Nat) (st : Station) (seat : Seat) (body : List Byte) : RxEntry :=
  { kind := k, key := mkKey (kindClass k) order st seat, body := body, stamp := 4000, marks := [], tailCut := false
    claimed := false }

/-- The state with one frame in the receive queue. -/
def fronted (f : RxEntry) (s : State) : State := { s with store := { s.store with queue := [f] } }

/-- The state after a command, for the tests of one step; the state itself where the step does not answer one. -/
def after (c : Instr) (s : State) : State :=
  match exec c s with
  | .next t => t
  | _ => s

/-- An entry of the transmit queue. -/
def entry (k : Kind) (order : Nat) (s : State) : TxEntry := newEntry s k order 0 3 {}

/-- The state with entries in the transmit queue. -/
def queued (q : List TxEntry) (s : State) : State := { s with sched := { s.sched with queue := q } }

/-- The line interface changed. -/
def onLine (f : LineIf → LineIf) (s : State) : State := { s with line := f s.line }

/-- The receive store changed. -/
def inStore (f : Store → Store) (s : State) : State := { s with store := f s.store }

/-- The state held IDLE. -/
def idling (s : State) : State := onLine (fun l => { l with level := .idle, idleSince := some 0, rx := .hunt }) s

/-! ### The manual's worked cases -/

/-- R28's test value. -/
theorem test_crc : crc [0x31, 0x32, 0x33, 0x34, 0x35, 0x36, 0x37, 0x38, 0x39] = 0x29B1 := by decide +kernel

/-- 01, 1.10: the keys of three buzzes. -/
theorem test_buzz_keys : mkKey 3 1827 9 0 = 0x60072348 ∧ mkKey 3 1827 17 5 = 0x6007238D
    ∧ mkKey 3 1830 4 2 = 0x60072622 := by decide

/-- 07, 7.8: the key of a refused buzz. -/
theorem test_locked_key : mkKey 3 2300 3 6 = 0x6008FC1E := by decide

/-- 09, 9.3: the awards and limits. -/
theorem test_awards : awardOf 100 20000 3512 2 1 = 176 ∧ awardOf 100 20000 3512 5 2 = 423
    ∧ awardOf 100 20000 19999 0 1 = 100 ∧ awardOf 250 120000 0 4 3 = 1687 ∧ awardOf 0 20000 5 3 2 = 0
    ∧ awardOf 100 15000 2230 1 1 = 159 ∧ clampTotal (29000 + 1687) = 29999 ∧ clampTotal (-9800 - 750) = -9999 := by
  decide

/-- 05, 5.2: the halted question before and after its RESUME. -/
def haltedTimer : Timer := (Timer.begin 500000 20000 5 500000).halt 506000

theorem test_halt_freezes_the_countdown : haltedTimer.cond = .halted ∧ haltedTimer.countdown 509000 = some 14 := by
  decide

theorem test_resume_places_the_presses :
    let t := haltedTimer.resume 510000 510000
    t.offset = 4000 ∧ t.place 499990 = some .before ∧ t.place 505900 = some (.within 5900)
      ∧ t.place 506400 = some .halted ∧ t.place 512000 = some (.within 8000)
      ∧ t.expiryInstant = 524000 ∧ t.warnInstant = some 519000 ∧ t.countdown 519000 = some 5
      ∧ t.countdown 523001 = some 1 := by decide

/-- 05, 5.2: a HALT on the edge of expiry withdraws it. -/
theorem test_halt_withdraws_expiry :
    let t := { haltedTimer.resume 510000 510000 with due := true }.halt 523998
    t.countdown 524003 = some 1 ∧ t.due = false := by decide

/-- A desk of the worked pass (09, 9.5), with its score and poll tables before it. -/
def beforePass : State :=
  let records : List SeatRecord :=
    [{ newRecord 7 0 with total := 300 }, { newRecord 7 1 with total := 210, streak := 3 },
      { newRecord 12 1 with total := 95, streak := 2 }, { newRecord 12 5 with total := 480 },
      { newRecord 12 6 with total := 0 }, { newRecord 15 0 with total := 160, streak := 4 }]
  let base := startWith { station := 0, role := .presenter, seatCount := 0, fast := true } []
  { base with
    engine := { base.engine with
      state := .scoring, showNo := 1, question := some { question .poll with number := 6 }, pass := some 1 }
    poll := {
      table := [{ station := 7, seat := 0, choice := 0, e := 3050 }, { station := 12, seat := 1, choice := 1, e := 4391 },
        { station := 12, seat := 5, choice := 0, e := 4630 }, { station := 12, seat := 6, choice := 2, e := 4702 }]
      tally := ⟨#[2, 1, 1, 0], rfl⟩ }
    score := { base.score with records := records, totals := ⟨#[0, 510, 0, 575, 0, 160, 0], rfl⟩ }
    roster := { base.roster with
      entries := putAt (putAt (putAt base.roster.entries (7 : Station) { code := some (.desk 1), present := true })
        (12 : Station) { code := some (.desk 3), present := true })
        (15 : Station) { code := some (.desk 5), present := false } }
    store := { base.store with queue := [frame .reveal 0 0 0 [6, 1]], adrift := false } }

theorem test_pass_rewrites_the_records :
    (after .scorePassComplete beforePass).score.records.map (fun r => (r.total, r.streak, r.lastAward))
      = [(442, 1, 142), (210, 0, 0), (95, 0, 0), (618, 1, 138), (0, 0, 0), (160, 4, 0)] := by decide +kernel

theorem test_pass_moves_the_teams_and_ends :
    (after .scorePassComplete beforePass).score.standings = [{ team := 3, total := 713, rank := 1 },
      { team := 1, total := 652, rank := 2 }, { team := 5, total := 160, rank := 3 }]
    ∧ (after .scorePassComplete beforePass).engine.lastNo = 6
    ∧ (after .scorePassComplete beforePass).store.queue = [] := by decide +kernel

/-- 02, 2.6: an OPEN out of range is brought into it. -/
theorem test_open_is_clamped :
    let f := frame .openQ 0 0 0 [0, 0, 0xE7, 255, 251, 9, 200, 31]
    (after .openTaken (fronted f desk)).engine.question
      = some { number := 1, type := .poll, base := 250, penalty := 250, stake := 3, windowMs := 120000, lead := 30
               scope := .seat, mode := .first, choices := 4, modeByte := 0xE7 } := by decide +kernel

/-- 06, 6.11, steps 4 and 5: a second presenter's CLOSE and OPEN. -/
theorem test_second_close_is_refused :
    (after .closeTaken (fronted (frame .closeQ 0 1 0 [2]) (asking .buzz desk))).engine.refusal
      = { kind := some .closeQ, reason := some .question, key := 0x40000008 } := by decide +kernel

theorem test_second_open_is_a_duplicate :
    (after .openTaken (fronted (frame .openQ 0 1 0 [1, 3, 0, 1, 1, 1, 1, 1]) (asking .buzz desk))).engine.refusal
      = { kind := some .openQ, reason := some .again, key := 0x40000008 } := by decide +kernel

/-- 04, 4.9, attempt 16: the sixteenth fault veto drops the entry and brings QUIET. -/
def vetoedSender : State :=
  onLine (fun l => { l with
    tx := .awaitVerdict
    rx := .window { frame := { chars := [0x60, 0, 1, 0x28, 7, 2, 3, 2], faults := [] }, decision := .noVeto
                    driven := true, held := none } })
    (inStore (fun t => { t with count := 120, health := .warning })
      (queued [{ entry .buzz 1 desk with retry := 15, inFlight := true }] desk))

theorem test_sixteenth_veto_drops_the_entry :
    let t := after (.verdict true true false) vetoedSender
    t.sched.queue = [] ∧ t.store.count = 128 ∧ t.store.health = .quiet
      ∧ t.link.faultReason = some .undeliverable := by decide +kernel

/-- 04, 4.8, attempt 4: a frame let pass by a full store is dropped, adrift is set and the count falls. -/
theorem test_let_pass_drops_the_frame :
    let w : Window := { frame := { chars := [0x60, 0, 1, 0x18, 7, 2, 3, 2, 0, 0], faults := [] }, decision := .letPass
                        driven := true, held := none }
    let f := frame .hello 0 9 0 []
    let s := inStore (fun t => { t with queue := [f, f, f, f], busyRun := 3, count := 40, adrift := false })
      (onLine (fun l => { l with rx := .window w }) desk)
    let t := after (.verdict false false false) s
    t.store.queue.length = 4 ∧ t.store.adrift = true ∧ t.store.count = 39 ∧ t.store.busyRun = 3 := by decide +kernel

/-- 10: a mark of station × 8 + code. -/
theorem test_mark : markByte 5 (.desk 1) = 0x2A ∧ markByte 31 .presenter = 0xF8 := by decide

/-- R37, R186: a mode byte whose scope is 11 and whose n is 7 is rewritten. -/
theorem test_mode_is_rewritten : rewriteMode 0xEF = 0x8C ∧ sentMode 0x8C = 0x84 := by decide

/-- R182: a record in the byte stream is judged, the reply's record following R39 and R40. -/
theorem test_roll_command_reply :
    (after .rollCommand lectern).link.tx = .reply [0xA5, 0x91, 3, 0, 0, 0] := by decide +kernel

theorem test_malformed_reply_wraps :
    (after (.malformedRecord 0x90 0) lectern).link.tx = .reply [0xA5, 0x10, 3, 2, 6, 0] := by decide +kernel

/-- 11, 11.5: a mask that enables a pending kind has it sent after the reply. -/
theorem test_notices_command_then_health :
    let s := after (.noticesCommand 0x17) (raise .health lectern)
    s.link.tx = .reply [0xA5, 0x87, 5, 0, 0, 0, 0x17, 0x10] ∧ attn s = true
      ∧ (after .replySent s).link.tx = .notice [0xA5, 0x44, 0] ∧ attn (after .replySent s) = false := by decide +kernel

/-- 07, 7.8, steps 2 to 4: a late earlier buzz takes the floor. -/
def twoBuzzes : State :=
  let s := asking .buzz lectern
  { s with buzz := { s.buzz with queue :=
    [{ station := 5, seat := 1, team := 1, e := 2104, key := mkKey 3 2104 5 1 },
      { station := 12, seat := 0, team := 2, e := 2230, key := mkKey 3 2230 12 0 }] } }

theorem test_late_earlier_buzz_takes_the_floor :
    let t := after .buzzTaken (fronted (frame .buzz 2088 3 4 [3, 1]) twoBuzzes)
    t.buzz.queue.map (fun b => (b.station.val, b.seat.val)) = [(3, 4), (5, 1), (12, 0)]
      ∧ (recordOf t 3 4).isSome = true ∧ (rosterOf t 3).code = some (.desk 0) := by decide +kernel

/-- 07, 7.8, steps 5 and 8: a VERDICT on another seat, and a VOID. -/
theorem test_verdict_off_the_floor_is_refused :
    (after .verdictTaken (fronted (frame .verdict 0 0 0 [3, 0x60, 2]) twoBuzzes)).engine.refusal.reason
      = some .notFloor := by decide +kernel

theorem test_void_removes_the_floor :
    (after .verdictTaken (fronted (frame .verdict 0 0 0 [3, 0x29, 9]) twoBuzzes)).buzz.queue.map (·.e) = [2230] := by
  decide +kernel

/-- 09, 9.6: station 22's table after station 7's TALLY. -/
theorem test_tally_overwrites :
    let base := startWith { station := 22, role := .desk 6, seatCount := 1, fast := false } []
    let s := { base with
      engine := { base.engine with state := .closed, showNo := 4 }
      score := { base.score with
        records := [{ newRecord 7 0 with total := 300 }, { newRecord 7 1 with total := 210, streak := 3 },
          newRecord 22 0]
        totals := ⟨#[0, 510, 0, 0, 0, 0, 0], rfl⟩ }
      roster := { base.roster with
        entries := putAt base.roster.entries (7 : Station) { code := some (.desk 1), present := true } } }
    let t := after .tallyTaken (fronted (frame .tally 0 7 0 [4, 6, 2, 3, 0x01, 0xBA, 0, 0xD2, 0, 0, 0x10, 0]) s)
    t.score.totals[1] = 652 ∧ (t.score.records.map fun r => (r.seat.val, r.total, r.streak))
      = [(0, 442, 1), (1, 210, 0), (2, 0, 0), (0, 0, 0)] := by decide +kernel

/-- 05, R86: down, down, up, down, down, down is accepted at the last reading, with its stamp. -/
theorem test_bouncing_key :
    let s := after (.keyScan 1) (after (.keyScan 1) (after (.keyScan 1)
      (after (.keyScan 0) (after (.keyScan 1) (after (.keyScan 1) desk)))))
    s.panel.seats[0].latch = [{ key := .buzz, stamp := 5 }] := by decide +kernel

/-- 05, R87: a fifth press is lost with a refusal flash of 500 ms. -/
theorem test_fifth_press_is_lost :
    let full := updateSeat 2 (fun p => { p with
      keys := putAt p.keys (0 : Fin 5) { pressed := false, run := 2 }
      latch := List.replicate 4 { key := .buzz, stamp := 1 } }) desk
    let t := after (.acceptedPress 2 .buzz) full
    t.panel.seats[2].latch.length = 4 ∧ t.panel.seats[2].flash = some 500 := by decide +kernel

/-- 05, R87: presses of one scan stand in key order, whichever is reported first. -/
theorem test_presses_of_one_scan_stand_in_key_order :
    let near := updateSeat 2 (fun p => { p with keys := ⟨Array.replicate 5 { pressed := false, run := 2 }, rfl⟩ }) desk
    let t := after (.acceptedPress 2 .buzz) (after (.acceptedPress 2 (.choice 0)) near)
    t.panel.seats[2].latch = [{ key := .buzz, stamp := 0 }, { key := .choice 0, stamp := 0 }] := by decide +kernel

/-- 05, R85: the third reading of a key cannot fall at the clock value of the scan that made the second. -/
theorem test_one_scan_for_each_clock_value :
    let twice := after (.keyScan 1) (after (.keyScan 1) desk)
    (after (.acceptedPress 0 .buzz) twice).panel.seats[0].latch
      = [{ key := .buzz, stamp := twice.clock.now + 1 }] := by decide +kernel

/-- 05, R85, and log entry 9: a scan at a presenter reads no key, and the second at one clock value falls at the next.
-/
theorem test_scan_at_a_presenter :
    let once := after (.keyScan (BitVec.allOnes 40)) lectern
    once.panel = lectern.panel ∧ once.clock.now = lectern.clock.now
      ∧ (after (.keyScan (BitVec.allOnes 40)) once).panel = lectern.panel
      ∧ (after (.keyScan (BitVec.allOnes 40)) once).clock.now = lectern.clock.now + 1 := by decide +kernel

/-- 11, R181: a supply that becomes good under an active RESET leaves the part held, and the release latches the
straps. -/
theorem test_power_up_under_reset_stays_held :
    let pins : StrapPins := { stn := 7, team := 2, seats := 0, speed := false }
    let t := after (.powerUp { supplyGood := true, straps := pins }) (after .resetAssert desk)
    let u := after (.resetRelease { stn := 9, team := 2, seats := 0, speed := true }) t
    t.held = true ∧ u.held = false ∧ u.straps.station = 9 ∧ u.straps.fast = true := by decide +kernel

/-- 01, R9: a READY station joins a fresh edge from SYN-1 too, and follows its own frame from the first SYN. -/
theorem test_join_from_first_syn :
    let s := onLine (fun l => { l with rx := .syn1, tx := .ready }) (queued [entry .buzz 1 desk] desk)
    (after (.startEdgeSeen true) s).line.tx = .arbitrate ∧ (after (.startEdgeSeen true) s).line.rx = .hunt := by
  decide +kernel

/-- 01, R2: SYN, D2h, as a dominant start bit, its bits most significant first and a recessive stop bit; and a dominant
stop bit, the byte being read all the same. -/
theorem test_line_character : lineChar 0xD2 = 0b0_11010010_1#10 ∧ lineByte 0b0_11010010_0#10 = 0xD2
    ∧ lineFraming 0b0_11010010_0#10 = true ∧ lineFraming 0b0_11010010_1#10 = false := by decide

/-- 01, R2: the first character of a frame begun is on the line as its ten levels. -/
theorem test_frame_begins_with_the_levels_of_syn :
    sendingLine (after .idle (queued [entry .buzz 1 desk] desk)) = some 0b0_11010010_1#10 := by decide +kernel

/-- 01, R15 and R16: a busy veto that this station drives alone makes the verdict; a BUSY-VETOED frame is discarded. -/
theorem test_own_busy_veto_alone_vetoes :
    let w : Window := { frame := { chars := (frameChars .halt (mkKey 1 0 9 0) [3]).drop 2, faults := [] }
                        decision := .busyVeto, driven := true, held := none }
    let t := after (.verdict false false false) (onLine (fun l => { l with rx := .window w }) desk)
    t.store.queue = [] ∧ t.line.rx = .waitIdle ∧ t.store = desk.store := by decide +kernel

/-- 01, R9: at an edge too old to join, the receiver of a READY station follows the frame from WAIT-IDLE, and reads its
key after its two SYNs; the entry waits. -/
theorem test_old_edge_is_followed :
    let s := after (.startEdgeSeen false)
      (onLine (fun l => { l with rx := .waitIdle, tx := .ready }) (queued [entry .buzz 1 desk] desk))
    let t := after (.characterComplete 0xD2 false) (after (.characterComplete 0xD2 false) s)
    s.line.rx = .hunt ∧ s.line.tx = .ready ∧ s.sched.queue = [entry .buzz 1 desk]
      ∧ (after (.characterComplete 0x60 false) t).line.rx = .frame { chars := [0x60], faults := [] } := by
  decide +kernel

/-- 01, R6, and log entry 34: where no entry is ready, a receiver in WAIT-IDLE stays there until IDLE. -/
theorem test_edge_leaves_wait_idle_without_an_entry :
    (after (.startEdgeSeen false) (onLine (fun l => { l with rx := .waitIdle }) desk)).line.rx = .waitIdle := by
  decide +kernel

/-- 11, R182: A5h as a start bit, eight data bits least significant first, and a stop bit. -/
theorem test_uart_character : uartChar 0xA5 = 0b1_10100101_0#10 ∧ uartRead 0b0_10100101_0#10
    = { value := 0xA5, framing := true } := by decide

/-- 04, R69 and R71: the count is held at 255 and the station is OFF. -/
theorem test_count_above_255_enters_off :
    let t := after .stuckLine (inStore (fun t => { t with count := 255, health := .quiet }) (after .clearPulse desk))
    t.store.health = .off ∧ t.store.count = 255 ∧ t.store.longIdles = 0 := by decide +kernel

/-- 08, R137 and R138: a choice press of an open poll, and its ANSWER entry with its e. -/
def pressed (key : PadKey) (t : QuestionType) : State :=
  updateSeat 1 (fun p => { p with latch := [{ key := key, stamp := 4500 }] }) (asking t desk)

theorem test_choice_press_is_answered :
    let t := after .press (pressed (.choice 2) .poll)
    t.panel.seats[1].chosen = some { choice := 2, e := 3500 }
      ∧ t.sched.queue.map (·.key) = [mkKey 4 3500 5 0] := by decide +kernel

/-- R118 and R119: a buzz press, and a second one refused. -/
theorem test_buzz_press_is_placed :
    let t := after .press (pressed .buzz .buzz)
    t.panel.seats[1].buzzed = true ∧ t.sched.queue.map (·.key) = [mkKey 3 3500 5 1] := by decide +kernel

/-- 02, R38: the entries of an ANSWER body are taken one by one, one out of range being ignored. -/
theorem test_answer_entries :
    let s := asking .poll lectern
    let body : List Byte := [3, 2, 0x08, 0x0B, 0xEA, 0x28, 0x4E, 0x20, 0x30, 0x00, 0x07]
    let t := after .answerTaken (fronted (frame .answer 7 7 0 body) s)
    t.poll.table.map (fun r => (r.seat.val, r.choice.val, r.e)) = [(0, 1, 3050), (1, 2, 7)]
      ∧ t.poll.tally = ⟨#[0, 1, 1, 0], rfl⟩ := by decide +kernel

/-- 10, R174: an own HELLO with marks of two desks and a presenter waits for the desks. -/
theorem test_own_hello_waits :
    let f := { frame .hello 0 5 0 [] with marks := [0x00, 0x2A, 0x3A, 0x65] }
    (after .helloTaken (fronted f desk)).roster.catchUp
      = { state := .waiting, expected := [7, 12], received := [], deadline := some 8000 } := by decide +kernel

/-- 10, R169: a complete tail makes the stations without a mark absent. -/
theorem test_roll_is_a_census :
    let s := { desk with roster := { desk.roster with
      entries := putAt desk.roster.entries (9 : Station) { code := some (.desk 0), present := true } } }
    let t := after .rollTaken (fronted { frame .roll 0 0 0 [1, 0] with marks := [0x00, 0x3A] } s)
    rosterOf t 9 = { code := some (.desk 0), present := false }
      ∧ rosterOf t 7 = { code := some (.desk 1), present := true }
      ∧ rosterOf t 0 = { code := some .presenter, present := true }
      ∧ rosterOf t 5 = { code := some (.desk 1), present := true } := by decide +kernel

/-- 01, R9 and 03: an entry placed on an IDLE line starts at once with its SYNs and key. -/
theorem test_command_starts_a_frame :
    let t := after (.startShowCommand 0) (idling lectern)
    t.line.tx = .arbitrate ∧ t.line.frame.take 9 = [0xD2, 0xD2, 0, 0, 0, 0, 1, 1, 1]
      ∧ sendingChar t = some 0xD2 := by decide +kernel

/-- 01, R6 and R7: a frame is read to its extent and its window opens undisturbed. -/
theorem test_frame_is_read_and_taken :
    let chars := frameChars .halt (mkKey 1 0 9 0) [3]
    let heard := chars.foldl (fun s c => after (.characterComplete c false) s) (idling desk)
    let t := after (.verdict false false false) heard
    (t.store.queue.map fun f => (f.kind, f.key, f.body, f.stamp)) = [(.halt, 0x20000048, [3], 0)]
      ∧ t.line.rx = .waitIdle := by decide +kernel

/-- 01, R22 and R23: a pulse that runs on becomes a line fault. -/
theorem test_stuck_line :
    let t := after .stuckLine (after .clearPulse desk)
    t.line.fault = true ∧ t.store.count = 1 ∧ t.store.lastFault.cause = some .stuck
      ∧ t.link.faultReason = some .stuck := by decide +kernel

/-! ### Witnesses: the machine and the transmitters -/

theorem witness_front_command :
    ({ lectern with pending := [.rollCommand, .idle] } : State).pending = .rollCommand :: [.idle] := rfl

/-- The part held by RESET, and by a supply not yet good. -/
def inReset (s : State) : State := { s with power := { resetActive := true, supplyGood := true } }

/-- The supply not yet good. -/
def unpowered (s : State) : State := { s with power := { resetActive := false, supplyGood := false } }

theorem witness_no_command_waiting :
    desk.pending = [] ∧ desk.held = false ∧ (inReset desk).pending = [] ∧ (inReset desk).held = true
      ∧ (unpowered desk).held = true := by decide

/-- A scan, the second at its clock value, a third reading of a key, and a command that is neither. -/
theorem witness_commands_and_the_clock :
    exec (.keyScan 0) (after (.keyScan 0) desk) = .next (after (.keyScan 0) (after (.keyScan 0) desk))
      ∧ exec (.acceptedPress 0 .buzz) desk = .next (after (.acceptedPress 0 .buzz) desk)
      ∧ exec .rollCommand lectern = .next (after .rollCommand lectern) := ⟨rfl, rfl, rfl⟩

/-- A running part, a part held by each cause, and RESET active and not. -/
theorem witness_held_part :
    (inReset (asking .buzz desk)).held = true ∧ (inReset desk).power.resetActive = true ∧ desk.held = false
      ∧ desk.power.resetActive = false ∧ (unpowered desk).held = true := by decide

theorem witness_strap_pins :
    (0 : BitVec 3) = 0 ∧ (7 : BitVec 3).toNat = (6 : Team).val + 1 ∧ (1 : BitVec 3).toNat = (0 : Team).val + 1 := by
  decide

/-- A desk link with one reply, with two kinds pending and one of them enabled, and with none. -/
def linked (replies : List Reply) (mask raised : BitVec 7) (s : State) : State :=
  { s with link := { s.link with replies := replies, mask := mask, raised := raised } }

/-- A waiting reply. -/
def reply : Reply := { kind := 0x81, status := .ok, inPass := false, data := [] }

theorem witness_reply_waiting :
    (linked [reply] 0 0 lectern).link.tx = .idle ∧ (linked [reply] 0 0 lectern).link.replies = reply :: [] := by decide

/-- FLOOR, the first kind, and CATCHUP, the last, each as the first that is pending and enabled. -/
theorem witness_notice_waiting :
    ∀ n ∈ [Notice.floor, .fault, .catchUp],
      let s := linked [] 0x7F (BitVec.twoPow 7 (noticeBit n) ||| BitVec.twoPow 7 6) lectern
      s.link.tx = .idle ∧ s.link.replies = [] ∧ (s.link.raised &&& s.link.mask).getLsbD (noticeBit n) = true
        ∧ ∀ m ∈ [Notice.floor, .round, .standings, .poll, .health, .fault, .catchUp],
          noticeBit m < noticeBit n → (s.link.raised &&& s.link.mask).getLsbD (noticeBit m) = false := by
  decide +kernel

theorem witness_desk_link_idle_and_at_work :
    (linked [] 0x0F 0x70 lectern).link.tx = .idle ∧ (linked [] 0x0F 0x70 lectern).link.replies = []
      ∧ (linked [] 0x0F 0x70 lectern).link.raised &&& (linked [] 0x0F 0x70 lectern).link.mask = 0
      ∧ (after .rollCommand lectern).link.tx ≠ .idle := by decide +kernel

/-- Two entries in key order, and the lower is offered; a TALLY held by an open question, and one lifted. -/
def twoEntries : State := queued [entry .buzz 500 desk, entry .tally 0 desk] desk

theorem witness_offered_entry :
    twoEntries.sched.queue.Pairwise (fun a b => a.key ≤ b.key) ∧ offered twoEntries = some (entry .buzz 500 desk)
      ∧ (queued [entry .tally 0 desk] desk).sched.queue.Pairwise (fun a b => a.key ≤ b.key)
      ∧ offered (queued [entry .tally 0 desk] desk) = some (entry .tally 0 desk)
      ∧ offered (queued [entry .tally 0 desk] (asking .buzz desk)) = none := by decide +kernel

/-- A transmitter at rest: OFF; IDLE with nothing offered; IDLE with an entry; the same in QUIET, at LONG IDLE from
SILENT and from DEFER; not IDLE. -/
theorem witness_transmitter_at_rest :
    (twoEntries.line.tx = .silent ∧ maySend (inStore (fun t => { t with health := .off }) twoEntries) = false)
    ∧ (maySend (idling desk) = true ∧ lineIdle (idling desk) = true ∧ offered (idling desk) = none)
    ∧ (let s := idling twoEntries
      s.line.tx = .silent ∧ maySend s = true ∧ lineIdle s = true ∧ offered s = some (entry .buzz 500 desk)
        ∧ s.store.health ≠ .quiet)
    ∧ (let s := inStore (fun t => { t with health := .quiet }) (idling twoEntries)
      s.line.tx = .silent ∧ maySend s = true ∧ lineIdle s = true ∧ offered s = some (entry .buzz 500 desk)
        ∧ s.store.health = .quiet ∧ s.line.level = .idle)
    ∧ (∀ tx ∈ [TxState.silent, .defer],
      let s := onLine (fun l => { l with level := .longIdle, tx := tx })
        (inStore (fun t => { t with health := .quiet }) (idling twoEntries))
      s.line.tx = tx ∧ maySend s = true ∧ lineIdle s = true ∧ offered s = some (entry .buzz 500 desk)
        ∧ s.store.health = .quiet ∧ s.line.level = .longIdle)
    ∧ (twoEntries.line.tx = .silent ∧ maySend twoEntries = true ∧ lineIdle twoEntries = false) := by decide +kernel

/-! ### Witnesses: frames, keys and bodies -/

theorem witness_key_fields : 7 < 8 ∧ 2 ^ 21 - 1 < 2 ^ 21 ∧ mkKey 7 (2 ^ 21 - 1) 31 7 = 0xFFFFFFFF := by decide

/-- The longest ANSWER, and the TALLYs of one seat and of eight. -/
theorem witness_frames_as_sent :
    (keyClass (mkKey 4 0 5 0) = kindClass .answer ∧ (List.replicate 26 (1 : Byte)).length ∈ kindLengths .answer)
    ∧ (∀ n ∈ [1, 8], let body := [4, 6, 2, byteOf n] ++ List.replicate (tallyLength n - 4) (0 : Byte)
      keyClass (mkKey 7 0 5 0) = kindClass .tally ∧ body.length ∈ kindLengths .tally
        ∧ 1 ≤ numAt body 3 ∧ numAt body 3 ≤ 8 ∧ body.length = tallyLength (numAt body 3)) := by decide +kernel

theorem witness_entries_of_each_kind :
    (∀ k ∈ [Kind.newShow, .halt, .resume, .closeQ, .openQ, .verdict, .reveal, .roll, .hello, .tally],
      (entry k 0 lectern).kind = k)
    ∧ (∀ k ∈ [Kind.buzz, .answer], (entry k 7 desk).kind = k ∧ desk.straps.role = .desk 1) := by decide

/-- A pending answer with the greatest e that its field holds. -/
def withAnswer (e : Nat) (s : State) : State :=
  { s with sched := { s.sched with answers := [{ seat := 2, choice := 1, e := e, changed := false }] } }

theorem witness_answers_to_send : ∀ a ∈ (withAnswer 524287 desk).sched.answers, a.e < 2 ^ 19 := by decide

/-- A desk of one seat, and a desk of eight with the extremes of total and streak. -/
def fullDesk : State :=
  let base := startWith { station := 5, role := .desk 6, seatCount := 8, fast := false } []
  { base with score := { base.score with records := [{ newRecord 5 0 with total := -9999, lastAward := -750 },
    { newRecord 5 7 with total := 29999, streak := 15, lastAward := 1687 }] } }

/-- Desk station 5 of team 1 with one seat. -/
def oneSeat : State := startWith { station := 5, role := .desk 0, seatCount := 1, fast := false } []

theorem witness_tallies_to_send :
    (oneSeat.straps.role = .desk 0 ∧ oneSeat.engine.showNo ≤ 255 ∧ oneSeat.engine.lastNo ≤ 255 ∧ 1 ≤ oneSeat.straps.seatCount ∧ oneSeat.straps.seatCount ≤ 8
      ∧ ∀ r ∈ oneSeat.score.records, recordInRange r)
    ∧ fullDesk.straps.role = .desk 6 ∧ 1 ≤ fullDesk.straps.seatCount ∧ fullDesk.straps.seatCount ≤ 8
    ∧ ∀ r ∈ fullDesk.score.records, recordInRange r := by decide +kernel

/-! ### Witnesses: the theatre line -/

/-- The receive store's health state and count. -/
def healthy (h : Health) (count : Nat) (s : State) : State := inStore (fun t => { t with health := h, count := count }) s

/-- The transmitter's state. -/
def sending (tx : TxState) (s : State) : State := onLine (fun l => { l with tx := tx }) s

/-- The receiver's state. -/
def receiving (rx : Receiver) (s : State) : State := onLine (fun l => { l with rx := rx }) s

theorem witness_line_to_be_idle :
    ∀ s ∈ [desk, after .clearPulse desk, receiving .syn1 desk], s.held = false ∧ (s.line.level = .unsettled ∨ s.line.level = .pulse)
      ∧ s.line.fault = false ∧ (s.line.rx = .waitIdle ∨ s.line.rx = .hunt ∨ s.line.rx = .syn1)
      ∧ (s.line.tx = .silent ∨ s.line.tx = .ready ∨ s.line.tx = .defer) := by decide +kernel

theorem witness_deferring_station :
    let s := sending .defer (healthy .quiet 130 (idling twoEntries))
    s.held = false ∧ s.line.tx = .defer ∧ s.store.health = .quiet ∧ lineIdle s = true ∧ maySend s = true
      ∧ offered s = some (entry .buzz 500 desk) := by decide +kernel

/-- LONG IDLE at an ACTIVE station, and at an OFF one as the 31st and the 32nd. -/
theorem witness_long_idle :
    ((idling desk).line.level = .idle ∧ (idling desk).store.health ≠ .off)
    ∧ (let s := inStore (fun t => { t with health := .off, count := 255, longIdles := 30 }) (idling desk)
      s.held = false ∧ s.line.level = .idle ∧ s.store.health = .off ∧ s.store.longIdles + 1 < 32)
    ∧ (let s := inStore (fun t => { t with health := .off, count := 255, longIdles := 31 }) (idling desk)
      s.held = false ∧ s.line.level = .idle ∧ s.store.health = .off ∧ 32 ≤ s.store.longIdles + 1) := by decide +kernel

/-- A station with nothing to send, one from QUIET, ones that see an old edge from WAIT-IDLE and from HUNT, one in DEFER,
and ones that join. -/
theorem witness_start_edges :
    (∀ p ∈ [(desk, true), (sending .ready (healthy .quiet 130 twoEntries), true), (sending .ready twoEntries, false),
        (receiving .hunt (sending .ready twoEntries), false), (receiving .hunt (sending .defer twoEntries), true)],
      p.1.held = false ∧ p.1.line.level ≠ .stuck ∧ ¬(p.2 = true ∧ p.1.line.tx = .ready ∧ p.1.store.health ≠ .quiet
        ∧ maySend p.1 = true ∧ (p.1.line.rx = .waitIdle ∨ p.1.line.rx = .hunt ∨ p.1.line.rx = .syn1)
        ∧ (offered p.1).isSome = true))
    ∧ (∀ rx ∈ [Receiver.waitIdle, .syn1], let s := receiving rx (sending .ready twoEntries)
      s.held = false ∧ s.line.level ≠ .stuck ∧ s.line.tx = .ready ∧ s.store.health ≠ .quiet ∧ maySend s = true
        ∧ (s.line.rx = .waitIdle ∨ s.line.rx = .hunt ∨ s.line.rx = .syn1) ∧ offered s = some (entry .buzz 500 desk)) := by decide +kernel

/-- A frame cut after its key. -/
def cutFrame : Partial := { chars := [0x20, 0, 0, 0x48], faults := [] }

theorem witness_frame_cut_short :
    (receiving (.frame cutFrame) desk).held = false ∧ (receiving (.frame cutFrame) desk).line.rx = .frame cutFrame
      ∧ (receiving (.adriftExtent cutFrame) desk).line.rx = .adriftExtent cutFrame := by decide +kernel

theorem witness_receiver_states :
    (∀ rx ∈ [Receiver.hunt, .syn1, .frame cutFrame, .waitIdle, .adriftExtent cutFrame,
        .window { frame := cutFrame, decision := .noVeto, driven := true, held := none },
        .tail { marks := [], mine := none, before := none }], (receiving rx desk).held = false
      ∧ (receiving rx desk).line.level ≠ .stuck ∧ (receiving rx desk).line.rx = rx)
    ∧ (sending .arbitrate desk).line.tx = .arbitrate ∧ (sending .send desk).line.tx = .send := by decide +kernel

/-- A HALT of station 9, up to its length character. -/
def haltHead : Partial := { chars := [0x20, 0, 0, 0x48, 0x02], faults := [] }

/-- The three ways a sixth character and after can go: the extent lost with 27, kept with 1; the extent reached. -/
theorem witness_extents :
    (let g := haltHead.chars ++ [(27 : Byte)];
      g.length = 6 ∧ 26 < numAt g 5)
    ∧ (let g := haltHead.chars ++ [(1 : Byte)];
      ¬(g.length = 6 ∧ 26 < numAt g 5) ∧ ¬(6 < g.length ∧ g.length = 8 + numAt g 5))
    ∧ (let g := haltHead.chars ++ [(1 : Byte), 3, 0, 0];
      6 < g.length ∧ g.length = 8 + numAt g 5) := by decide +kernel

/-- The counts at the edges of R70's table; and a station of each answer to R9's and R15's tests. -/
theorem witness_health_table :
    95 ≤ 95 ∧ 96 ≤ 96 ∧ 127 ≤ 127 ∧ 128 ≤ 128 ∧ desk.store.health = .active ∧ desk.store.twin = false
      ∧ (healthy .warning 127 desk).store.health = .warning ∧ (healthy .quiet 128 desk).store.health = .quiet
      ∧ (healthy .off 255 desk).store.health = .off := by decide

/-- A full receive queue, with a busy run. -/
def fullStore (run : Nat) (s : State) : State :=
  inStore (fun t => { t with queue := List.replicate 4 (frame .halt 0 9 0 [3]), busyRun := run }) s

theorem witness_veto_table :
    ({ cutFrame with faults := [{ cause := .check, position := 8 }] } : Partial).faults ≠ [] ∧ cutFrame.faults = []
      ∧ (inStore (fun t => { t with queue := List.replicate 3 (frame .halt 0 9 0 [3]) }) desk).store.queue.length < 4
      ∧ 4 ≤ (fullStore 2 desk).store.queue.length ∧ (fullStore 2 desk).store.busyRun < 3
      ∧ 3 ≤ (fullStore 3 desk).store.busyRun := by decide +kernel

/-- An own frame on the line. -/
def onAir (retry : Nat) (discard : Bool) (tx : TxState) (s : State) : State :=
  sending tx (onLine (fun l => { l with frame := frameChars .buzz (mkKey 3 1 5 0) [3, 2], sent := 6 })
    (queued [{ entry .buzz 1 desk with retry := retry, discard := discard, inFlight := true }] s))

/-- The entry of that frame. -/
def flying (retry : Nat) (discard : Bool) : TxEntry :=
  { entry .buzz 1 desk with retry := retry, discard := discard, inFlight := true }

theorem witness_frame_lost :
    ∀ d ∈ [false, true], (onAir 3 d .arbitrate desk).held = false ∧ (onAir 3 d .arbitrate desk).line.tx = .arbitrate
      ∧ inFlight? (onAir 3 d .arbitrate desk) = some (flying 3 d) ∧ (flying 3 d).discard = d := by decide +kernel

/-- A disturbed frame with its fifteenth retry, with its sixteenth and condemned; at the greatest count that stays
out of OFF, at the least that enters it, and in OFF. -/
theorem witness_frame_disturbed :
    ∀ p ∈ [(14, false), (15, false), (3, true)], ∀ h ∈ [(Health.quiet, 247), (.quiet, 248), (.off, 255)],
      let s := healthy h.1 h.2 (onAir p.1 p.2 .send desk)
      s.held = false ∧ (s.line.tx = .arbitrate ∨ s.line.tx = .send)
        ∧ inFlight? s = some (flying p.1 p.2) := by decide +kernel

/-- The window of a whole frame. -/
def windowOf (k : Kind) (key : Key) (body : List Byte) (d : Decision) : Window :=
  { frame := { chars := (frameChars k key body).drop 2, faults := [] }, decision := d, driven := false, held := none }

/-- The two commands that act on a verdict: VERDICT with the halves that the rest of the line shows, and
HELD_VERDICT_ACTED of one held at 77. -/
def acting (w : Window) (v : Verdict) (faultHalf busyHalf : Bool) (s : State) : Bool :=
  decide (actsOn { w with held := none } v s.clock.now (.verdict faultHalf busyHalf false)
    (receiving (.window { w with held := none }) s))
  && decide (actsOn { w with held := some { verdict := v, stamp := 77 } } v 77 .heldVerdictActed
    (receiving (.window { w with held := some { verdict := v, stamp := 77 } }) s))

/-- A frame of another station with a free place, its count at the edge of its fall, decided each way that lets it in:
the busy veto at stations that may not drive it. -/
theorem witness_frame_to_take :
    (∀ p ∈ [(Decision.noVeto, healthy .warning 96 desk), (.letPass, healthy .active 0 desk),
      (.busyVeto, healthy .quiet 128 desk), (.busyVeto, healthy .off 255 desk),
      (.busyVeto, inStore (fun t => { t with twin := true }) desk)],
      let w := windowOf .halt (mkKey 1 0 9 0) [3] p.1
      acting w .taken false false p.2 ∧ readsClean w .halt ∧ p.2.line.tx ≠ .awaitVerdict ∧ p.2.store.queue.length < 4
        ∧ keyStation (keyOfBytes w.frame.chars) ≠ p.2.straps.station)
    ∧ (let w := windowOf .roll (mkKey 6 0 0 0) [1, 0] .noVeto
      acting w .taken false false desk ∧ readsClean w .roll ∧ Kind.hasTail .roll = true ∧ maySend desk = true
        ∧ keyStation (keyOfBytes w.frame.chars) ≠ desk.straps.station) := by decide +kernel

/-- A clean frame vetoed in each half by the rest of the line, and by this station's own drive alone. -/
theorem witness_frame_vetoed :
    (∀ p ∈ [(true, false, Verdict.faultVetoed), (false, true, .busyVetoed)],
      let w := windowOf .halt (mkKey 1 0 9 0) [3] .noVeto
      acting w p.2.2 p.1 p.2.1 desk ∧ p.2.2 ≠ .taken ∧ w.frame.faults = [] ∧ desk.line.tx ≠ .awaitVerdict)
    ∧ ∀ p ∈ [(Decision.faultVeto, Verdict.faultVetoed), (.busyVeto, .busyVetoed)],
      let w := { windowOf .halt (mkKey 1 0 9 0) [3] p.1 with driven := true }
      acting w p.2 false false (fullStore 2 desk) ∧ w.frame.faults = [] := by decide +kernel

/-- A frame with no place, of each kind of place and with the tail of one; its count at the edge of its fall. -/
theorem witness_frame_without_place :
    ∀ k ∈ [(Kind.halt, 1, [(3 : Byte)]), (.roll, 6, [1, 0]), (.hello, 6, [])],
      ∀ h ∈ [(Health.active, 0), (.active, 1), (.off, 255)],
      let w := windowOf k.1 (mkKey k.2.1 0 9 0) k.2.2 .letPass
      let s := healthy h.1 h.2 (fullStore 3 desk)
      acting w .taken false false s ∧ readsClean w k.1 ∧ s.line.tx ≠ .awaitVerdict ∧ 4 ≤ s.store.queue.length
        ∧ keyStation (keyOfBytes w.frame.chars) ≠ s.straps.station := by decide +kernel

/-- A frame with a check fault. -/
def badWindow : Window :=
  { frame := { chars := [0x20, 0, 0, 0x48, 2, 1, 3, 0, 0], faults := [{ cause := .check, position := 8 }] }
    decision := .faultVeto, driven := false, held := none }

/-- At the greatest count that stays out of OFF, at the least that enters it, and in OFF: taken, vetoed in each half,
by the own drive alone, and with the own transmitter disturbed; and a frame cut short without a fault. -/
theorem witness_unread_frame :
    (∀ h ∈ [(Health.quiet, 254), (.quiet, 255), (.off, 255)],
      let s := healthy h.1 h.2 desk
      acting badWindow .taken false false s ∧ acting badWindow .busyVetoed false true s
        ∧ acting badWindow .faultVetoed true false s ∧ badWindow.decision = .faultVeto ∧ s.line.tx ≠ .awaitVerdict
        ∧ badWindow.frame.faults ≠ [] ∧ s.line.disturbed = false)
    ∧ acting { badWindow with driven := true } .faultVetoed false false desk
    ∧ (let s := onLine (fun l => { l with disturbed := true }) desk
      acting badWindow .faultVetoed true false s ∧ ¬(badWindow.frame.faults ≠ [] ∧ s.line.disturbed = false))
    ∧ acting { badWindow with frame := cutFrame } .taken false false desk
    ∧ (windowOf .roll (mkKey 6 0 0 0) [1, 0] .faultVeto).decision = .faultVeto
    ∧ (kindRead (windowOf .roll (mkKey 6 0 0 0) [1, 0] .faultVeto).frame.chars).any Kind.hasTail = true
    ∧ (kindRead badWindow.frame.chars).any Kind.hasTail = false := by decide +kernel

/-- What every statement about the own frame's window asks of its state. -/
abbrev ownFlight (e : TxEntry) (s : State) : Prop :=
  s.line.tx = .awaitVerdict ∧ inFlight? s = some e ∧ s.line.disturbed = false

/-- An own BUZZ with its fifteenth retry, with its sixteenth and condemned; at a count that falls, and at those of a
fault veto that stays out of OFF, that enters it, and in OFF; delivered, vetoed in each half, and by the own busy veto
alone. -/
theorem witness_own_frame_in_window :
    let w := windowOf .buzz (mkKey 3 1 5 0) [3, 2] .noVeto
    let own := { windowOf .buzz (mkKey 3 1 5 0) [3, 2] .busyVeto with driven := true }
    ∀ p ∈ [(14, false), (15, false), (3, true)],
      ∀ h ∈ [(Health.active, 1), (.quiet, 247), (.quiet, 248), (.off, 255)],
      let s := healthy h.1 h.2 (onAir p.1 p.2 .awaitVerdict desk)
      ownFlight (flying p.1 p.2) s ∧ readsClean w .buzz ∧ acting w .taken false false s
        ∧ acting w .faultVetoed true true s ∧ acting w .busyVetoed false true s
        ∧ acting own .busyVetoed false false s ∧ s.store.queue.length < 4
        ∧ (flying p.1 p.2).kind ≠ .answer := by decide +kernel

/-- A busy veto that is not driven, which lets the frame be delivered, with no place for it. -/
theorem witness_own_frame_without_place :
    let w := windowOf .buzz (mkKey 3 1 5 0) [3, 2] .busyVeto
    let s := fullStore 0 (onAir 3 false .awaitVerdict desk)
    ownFlight (flying 3 false) s ∧ acting w .taken false false s ∧ readsClean w .buzz
      ∧ 4 ≤ s.store.queue.length := by decide +kernel

/-- An own ROLL and an own HELLO, whose tails follow. -/
theorem witness_own_frame_with_tail :
    ∀ p ∈ [(Kind.roll, [(1 : Byte), 0]), (.hello, [])],
      let w := windowOf p.1 (mkKey 6 0 5 0) p.2 .noVeto
      let e := { entry p.1 0 desk with inFlight := true }
      let s := sending .awaitVerdict (queued [e] desk)
      ownFlight e s ∧ acting w .taken false false s ∧ readsClean w p.1 ∧ p.1.hasTail = true
        ∧ maySend s = true := by decide +kernel

/-- An own ANSWER, of whose list nothing stays, and a changed entry stays. -/
theorem witness_own_answer_in_window :
    ∀ changed ∈ [false, true],
      let w := windowOf .answer (mkKey 4 7 5 0) [3, 2, 0x48, 0, 7] .noVeto
      let e := { entry .answer 7 desk with inFlight := true }
      let a : PendingAnswer := { seat := 2, choice := 1, e := 7, changed := changed }
      let q := queued [e] desk
      let s := sending .awaitVerdict { q with sched := { q.sched with answers := [a] } }
      ownFlight e s ∧ acting w .taken false false s ∧ readsClean w .answer ∧ e.kind = .answer ∧ e.discard = false
        ∧ s.sched.queue.length ≤ 12
        ∧ (∀ x ∈ s.sched.queue, x.kind = .answer → x.discard = false → x.inFlight = true)
        ∧ (s.sched.answers.filter (·.changed)).length = (if changed then 1 else 0) := by decide +kernel

/-- An own BUZZ read with a check fault: in a window that its own station does not veto, and in vetoed ones. -/
theorem witness_own_frame_read_badly :
    let sound := windowOf .buzz (mkKey 3 1 5 0) [3, 2] .faultVeto
    let w : Window := { sound with frame := { sound.frame with faults := [{ cause := .check, position := 9 }] } }
    let s := healthy .quiet 130 (onAir 3 false .awaitVerdict desk)
    ownFlight (flying 3 false) s ∧ w.decision = .faultVeto ∧ acting w .taken false false s
      ∧ acting { w with driven := true } .faultVetoed false false s ∧ acting w .busyVetoed false true s := by
  decide +kernel

/-- With a free place and with none, and with a tail. -/
theorem witness_foreign_frame_with_own_number :
    ∀ s ∈ [desk, fullStore 0 desk, healthy .warning 96 desk],
      ∀ k ∈ [(Kind.buzz, 3, [(3 : Byte), 2]), (.hello, 6, [])],
      let w := windowOf k.1 (mkKey k.2.1 1 5 0) k.2.2 .noVeto
      acting w .taken false false s ∧ readsClean w k.1 ∧ s.line.tx ≠ .awaitVerdict
        ∧ keyStation (keyOfBytes w.frame.chars) = s.straps.station := by decide +kernel

theorem witness_twin_stays :
    (inStore (fun t => { t with twin := true }) desk).store.twin = true
      ∧ exec .rollCommand desk = .next (after .rollCommand desk) := ⟨rfl, rfl⟩

/-- A tail with n marks. -/
def tailOf (n : Nat) : Tail := { marks := List.replicate n 0x2A, mine := none, before := some 0x2A }

theorem witness_tail_slots :
    (∀ n ∈ [0, 30, 31], (receiving (.tail (tailOf n)) desk).held = false
      ∧ (receiving (.tail (tailOf n)) desk).line.rx = .tail (tailOf n))
    ∧ (tailOf 30).before ≠ some 0x3A ∧ (tailOf 30).marks.length + 1 < 32 ∧ 32 ≤ (tailOf 31).marks.length + 1
    ∧ (tailOf 30).before = some 0x2A := by decide +kernel

/-- A clear pulse over an own frame, over a condemned one, over a tail and over a quiet line; and a stuck line. -/
theorem witness_clear_pulse :
    (∀ d ∈ [false, true], (onAir 3 d .send desk).held = false ∧ (onAir 3 d .send desk).line.level ≠ .stuck
      ∧ inFlight? (onAir 3 d .send desk) = some (flying 3 d))
    ∧ (receiving (.tail (tailOf 2)) desk).line.rx = .tail (tailOf 2) ∧ inFlight? desk = none
    ∧ (sending .clear desk).held = false ∧ (sending .clear desk).line.tx = .clear := by decide +kernel

/-- At the greatest count that stays out of OFF, at the least that enters it, and in OFF. -/
theorem witness_stuck_line :
    ∀ h ∈ [(Health.quiet, 254), (.quiet, 255), (.off, 255)], let s := healthy h.1 h.2 (after .clearPulse desk)
      s.held = false ∧ s.line.level = .pulse ∧ (after .stuckLine s).held = false
        ∧ (after .stuckLine s).line.fault = true := by decide +kernel

/-! ### Witnesses: seat panel, round clock and presses -/

/-- A seat's panel state changed. -/
def seated (seat : Seat) (f : SeatState → SeatState) (s : State) : State := updateSeat seat f s

/-- A key with some opposite readings, on a seat with some latched presses. -/
def keyed (pressed : Bool) (latched : Nat) (s : State) : State :=
  seated 2 (fun p => { p with
    keys := putAt p.keys (4 : Fin 5) { pressed := pressed, run := 2 }
    latch := List.replicate latched { key := .buzz, stamp := 1 } }) s

/-- A first scan and a second at one clock value, of the last fitted seat and the first unfitted one; a full latch
list of older presses. -/
theorem witness_key_scans :
    desk.held = false ∧ desk.clock.scanned = 0 ∧ desk.clock.scanned ≠ BitVec.allOnes 40
      ∧ (after (.keyScan 0) desk).clock.scanned = BitVec.allOnes 40
      ∧ desk.straps.seatCount ≤ (3 : Seat).val ∧ (2 : Seat).val < desk.straps.seatCount
      ∧ (keyed false 4 desk).panel.seats[(2 : Seat)].latch.length ≤ 4
      ∧ ∀ p ∈ (keyed false 4 desk).panel.seats[(2 : Seat)].latch, p.stamp ≠ (keyed false 4 desk).clock.now := by
  decide +kernel

/-- The last seat's last key accepted in a scan in which two of its other keys were accepted one by one. -/
theorem witness_key_scan_after_presses :
    let all := seated 2 (fun p => { p with keys := ⟨Array.replicate 5 { pressed := false, run := 2 }, rfl⟩ }) desk
    let s := after (.acceptedPress 2 (.choice 1)) (after (.acceptedPress 2 .buzz) all)
    let mine := fun key => decide (key = PadKey.buzz ∨ key = .choice 1)
    s.held = false ∧ s.clock.scanned ≠ BitVec.allOnes 40
      ∧ s.panel.seats[(2 : Seat)].latch = []
        ++ (allKeys.filter mine).map (fun key => ({ key := key, stamp := s.clock.now } : Press))
      ∧ s.panel.seats[(2 : Seat)].latch.length ≤ 4 ∧ s.clock.scanned.getLsbD (5 * 2 + 4) = false
      ∧ keyState s 2 (.choice 3) = { pressed := false, run := 2 } ∧ mine (.choice 3) = false := by decide +kernel

/-- A key not read at this clock value and one read at it; a free place and none, behind older presses. -/
theorem witness_keys_to_accept :
    (keyed false 3 desk).held = false ∧ (2 : Seat).val < (keyed false 3 desk).straps.seatCount
      ∧ keyState (keyed false 3 desk) 2 (.choice 3) = { pressed := false, run := 2 }
      ∧ (keyed false 3 desk).panel.seats[(2 : Seat)].latch.length < 4
      ∧ 4 ≤ (keyed false 4 desk).panel.seats[(2 : Seat)].latch.length
      ∧ keyState (keyed true 0 desk) 2 (.choice 3) = { pressed := true, run := 2 }
      ∧ desk.clock.scanned.getLsbD (5 * 2 + (keyPlace (.choice 3)).val) = false
      ∧ (setScanned (BitVec.allOnes 40) desk).clock.scanned.getLsbD (5 * 2 + (keyPlace (.choice 3)).val) = true
      ∧ ∀ n ∈ [3, 4], (keyed false n desk).panel.seats[(2 : Seat)].latch
          = List.replicate n { key := .buzz, stamp := 1 } ++ (allKeys.filter fun _ => false).map
              (fun key => ({ key := key, stamp := (keyed false n desk).clock.now } : Press))
        ∧ ∀ p ∈ List.replicate n ({ key := .buzz, stamp := 1 } : Press), p.stamp ≠ (keyed false n desk).clock.now := by
  decide +kernel

/-- A flash that ends at t. -/
def flashing (t : Stamp) (s : State) : State := seated 2 (fun p => { p with flash := some t }) s

/-- A flash at its end instant, and the latest time after it. -/
theorem witness_flash_to_end :
    ((flashing 0 desk).held = false ∧ (flashing 0 desk).panel.seats[(2 : Seat)].flash = some 0
      ∧ ((flashing 0 desk).clock.now - 0).toNat < 2 ^ 31)
    ∧ (flashing 0x80000001 desk).panel.seats[(2 : Seat)].flash = some 0x80000001
    ∧ ((flashing 0x80000001 desk).clock.now - 0x80000001).toNat < 2 ^ 31 := by decide +kernel

/-- The clock's reading. -/
def timed (now : Stamp) (s : State) : State := { s with clock := { s.clock with now := now } }

/-- The question timer changed. -/
def onTimer (f : Timer → Timer) (s : State) : State := { s with clock := { s.clock with timer := f s.clock.timer } }

/-- The warn instant is 1000 + 15000 and the expiry instant 1000 + 20000. -/
theorem witness_timer_instants :
    (let s := timed 16000 (asking .buzz desk);
      s.held = false ∧ s.clock.timer.cond = .running ∧ s.clock.timer.warned = false
        ∧ s.clock.timer.warnPoint = some 15000
        ∧ (s.clock.now - (s.clock.timer.origin + s.clock.timer.offset + BitVec.ofNat 32 15000)).toNat < 2 ^ 31)
    ∧ (let s := timed 21000 (asking .buzz desk);
      s.clock.timer.cond = .running ∧ s.clock.timer.due = false
        ∧ (s.clock.now
          - (s.clock.timer.origin + s.clock.timer.offset + BitVec.ofNat 32 s.clock.timer.limit)).toNat < 2 ^ 31)
    ∧ (let s := onTimer (fun t => { t with due := true }) (timed 21000 (asking .buzz desk));
      s.held = false ∧ s.clock.timer.cond = .running ∧ s.engine.state = .opened ∧ nextWork s = some .expiry) := by
  decide +kernel

/-- A timer halted at 6000 and resumed at 9000: each row of R80's table, at the edges of its stretches. -/
def resumed : Timer := (((Timer.begin 1000 20000 5 1000).halt 6000).resume 9000 9000)

theorem witness_placements :
    timerStart.cond = .clear ∧ resumed.cond = .running ∧ resumed.due = false
      ∧ resumed.previous = some { start := 1000, offset := 0, stop := 6000 }
      ∧ ¬((999 : Stamp) - resumed.origin).toNat < 2 ^ 31 ∧ ((1000 : Stamp) - resumed.origin).toNat < 2 ^ 31
      ∧ ((9000 : Stamp) - resumed.start).toNat < 2 ^ 31 ∧ ¬((8999 : Stamp) - resumed.start).toNat < 2 ^ 31
      ∧ ((5999 : Stamp) - 1000).toNat < 2 ^ 31 ∧ ¬((5999 : Stamp) - 6000).toNat < 2 ^ 31
      ∧ ((6000 : Stamp) - 6000).toNat < 2 ^ 31 ∧ resumed.place 5999 = some (.within 4999)
      ∧ resumed.place 6000 = some .halted ∧ resumed.place 23999 = some (.within 19999)
      ∧ resumed.place 24000 = some .late ∧ (resumed.halt 12000).cond = .halted
      ∧ (resumed.halt 12000).haltStamp = some 12000 := by decide +kernel

/-- Seat 1 of the desk with one press, of a key at an instant. -/
def pressing (key : PadKey) (stamp : Stamp) (s : State) : State :=
  seated 1 (fun p => { p with latch := [{ key := key, stamp := stamp }] }) s

/-- The press is the engine's next item. -/
abbrev pressReady (key : PadKey) (stamp : Stamp) (s : State) : Prop :=
  s.held = false ∧ nextWork s = some .press ∧ oldestPress s = some (1, { key := key, stamp := stamp })

/-- The question of an asking state replaced. -/
def withQuestion (q : Question) (s : State) : State := { s with engine := { s.engine with question := some q } }

/-- The seat's chosen answer. -/
def choosing (c : Choice) (e : Nat) (s : State) : State := seated 1 (fun p => { p with chosen := some { choice := c, e := e } }) s

theorem witness_press_with_no_question :
    let s := timed 5000 (pressing .buzz 4500 desk)
    pressReady .buzz 4500 s ∧ s.engine.state.isOpen = false := by decide +kernel

theorem witness_presses_of_the_wrong_type :
    (let s := pressing .buzz 4500 (asking .poll desk);
      pressReady .buzz 4500 s ∧ openQuestionIs s (question .poll))
    ∧ (let s := pressing (.choice 0) 4500 (asking .buzz desk);
      pressReady (.choice 0) 4500 s ∧ openQuestionIs s (question .buzz)) := by decide +kernel

/-- Before the origin, in the halt, and at the first instant that is LATE. -/
theorem witness_presses_out_of_time :
    (let s := pressing .buzz 999 (asking .buzz desk);
      pressReady .buzz 999 s ∧ s.clock.timer.place 999 = some .before)
    ∧ (let s := pressing .buzz 6000 (timed 9500 { asking .buzz desk with
        clock := { (asking .buzz desk).clock with timer := resumed } });
      pressReady .buzz 6000 s ∧ s.clock.timer.place 6000 = some .halted)
    ∧ (let s := pressing .buzz 21000 (timed 21001 (asking .buzz desk));
      pressReady .buzz 21000 s ∧ s.clock.timer.place 21000 = some .late) := by decide +kernel

theorem witness_buzz_presses_refused :
    (let s := pressing .buzz 4500 (seated 1 (fun p => { p with buzzed := true }) (asking .buzz desk));
      pressReady .buzz 4500 s ∧ s.panel.seats[(1 : Seat)].buzzed = true)
    ∧ (let s := pressing .buzz 4500 { asking .buzz desk with buzz := { queue := [], lockouts := [.team 1] } };
      pressReady .buzz 4500 s ∧ lockedOut s s.straps.station 1 (teamOf (some s.straps.role)) = true) := by
  decide +kernel

theorem witness_choice_presses_refused :
    (let s := pressing (.choice 2) 4500 (withQuestion { question .poll with choices := 2 } (asking .poll desk));
      pressReady (.choice 2) 4500 s ∧ openQuestionIs s { question .poll with choices := 2 } ∧ 2 ≤ (2 : Choice).val)
    ∧ (let s := pressing (.choice 2) 4500
        (choosing 1 100 (withQuestion { question .poll with mode := .first } (asking .poll desk)));
      pressReady (.choice 2) 4500 s ∧ openQuestionIs s { question .poll with mode := .first }
        ∧ s.panel.seats[(1 : Seat)].chosen.isSome = true)
    ∧ (let s := pressing (.choice 1) 4500 (choosing 1 100 (asking .poll desk));
      pressReady (.choice 1) 4500 s ∧ openQuestionIs s (question .poll) ∧ (question .poll).mode = .last
        ∧ s.panel.seats[(1 : Seat)].chosen = some { choice := 1, e := 100 })
    ∧ (let s := pressing (.choice 2) 4500 (choosing 1 3500 (asking .poll desk));
      pressReady (.choice 2) 4500 s ∧ openQuestionIs s (question .poll)
        ∧ s.panel.seats[(1 : Seat)].chosen = some { choice := 1, e := 3500 }
        ∧ s.clock.timer.place 4500 = some (.within 3500) ∧ 3500 ≤ 3500) := by decide +kernel

/-- A transmit queue of n entries. -/
def crowded (n : Nat) (s : State) : State := queued (List.replicate n (entry .hello 0 s)) s

theorem witness_buzz_press_accepted :
    let s := pressing .buzz 4500 (crowded 11 (asking .buzz desk))
    pressReady .buzz 4500 s ∧ openQuestionIs s (question .buzz) ∧ (question .buzz).type = .buzz
      ∧ s.clock.timer.place 4500 = some (.within 3500) ∧ s.panel.seats[(1 : Seat)].buzzed = false
      ∧ lockedOut s s.straps.station 1 (teamOf (some s.straps.role)) = false ∧ s.sched.queue.length < 12 := by
  decide +kernel

/-- A first choice in FIRST mode, and a later one in LAST mode. -/
theorem witness_choice_presses_accepted :
    (let s := pressing (.choice 3) 4500 (withQuestion { question .poll with mode := .first } (asking .poll desk));
      pressReady (.choice 3) 4500 s ∧ openQuestionIs s { question .poll with mode := .first }
        ∧ s.clock.timer.place 4500 = some (.within 3500) ∧ (3 : Choice).val < (question .poll).choices
        ∧ s.panel.seats[(1 : Seat)].chosen = none)
    ∧ (let s := pressing (.choice 3) 4500 (choosing 1 3499 (asking .poll desk));
      pressReady (.choice 3) 4500 s ∧ openQuestionIs s (question .poll)
        ∧ s.panel.seats[(1 : Seat)].chosen = some { choice := 1, e := 3499 } ∧ (question .poll).mode = .last
        ∧ (1 : Choice) ≠ 3 ∧ 3499 < 3500) := by decide +kernel

/-- A pending answer with its ANSWER entry standing, in a queue of eleven; and an empty list with none. -/
theorem witness_pending_answers :
    (let s := withAnswer 3500 (queued (entry .answer 3500 desk :: List.replicate 10 (entry .hello 0 desk)) desk);
      s.sched.queue.length < 12 ∧ s.sched.answers.Pairwise (fun a b => a.seat < b.seat)
        ∧ (s.sched.queue.filter TxEntry.isLiveAnswer).length ≤ 1 ∧ (entry .answer 3500 desk).isLiveAnswer = true)
    ∧ desk.sched.queue.length < 12 ∧ desk.sched.answers.Pairwise (fun a b => a.seat < b.seat)
    ∧ ∀ old ∈ (crowded 11 desk).sched.queue, old.isLiveAnswer = false := by decide +kernel

/-! ### Witnesses: frames taken by the round engine -/

/-- A waiting catch-up that expects station 7, with its deadline at 4000. -/
def catching (s : State) : State :=
  { s with roster := { s.roster with
    catchUp := { state := .waiting, expected := [7], received := [], deadline := some 4000 } } }

/-- Each item as the engine's next; and a frame with nothing else to be done. -/
theorem witness_work_items :
    nextWork (pressing .buzz 4500 (asking .buzz desk)) = some .press
      ∧ nextWork (onTimer (fun t => { t with due := true }) (timed 21000 (asking .buzz desk))) = some .expiry
      ∧ nextWork (timed 4000 (catching desk)) = some .deadline ∧ dueDeadline (timed 4000 (catching desk)) = some 4000
      ∧ nextWork (fronted (frame .halt 0 9 0 [3]) (pressing .buzz 4500 (asking .buzz desk))) = some .frame := by
  decide +kernel

/-- An expiry due at 21000. -/
def expiryAt21000 : State := onTimer (fun t => { t with due := true }) (timed 21000 (asking .buzz desk))

/-- 06, R101, and 10, R178: a frame stamped before the instant of an expiry goes first and one stamped at it waits, held
in its claimed place or not; a press at the instant waits; and a deadline of the same instant follows. -/
theorem test_expiry_among_the_engine_work :
    let at_ := fun (stamp : Stamp) => { frame .halt 0 9 0 [3] with stamp := stamp }
    nextWork (fronted (at_ 20999) expiryAt21000) = some .frame ∧ nextWork (fronted (at_ 21000) expiryAt21000) = some .expiry
      ∧ nextWork (fronted { at_ 20999 with claimed := true } expiryAt21000) = none
      ∧ nextWork (pressing .buzz 20999 expiryAt21000) = some .press ∧ nextWork (pressing .buzz 21000 expiryAt21000) = some .expiry
      ∧ nextWork { expiryAt21000 with roster := { expiryAt21000.roster with
          catchUp := { state := .waiting, expected := [7], received := [], deadline := some 21000 } } }
        = some .expiry := by decide +kernel

/-- A press of seat 1 and one of seat 2, of one stamp, in a state without frame, expiry or deadline. -/
theorem witness_oldest_press :
    let s := seated 2 (fun p => { p with latch := [{ key := .choice 0, stamp := 4500 }] })
      (pressing .buzz 4500 (asking .buzz desk))
    oldestPress s = some (1, { key := .buzz, stamp := 4500 })
      ∧ (∀ (i : Seat), ∀ x ∈ s.panel.seats[i].latch.head?, (s.clock.now - x.stamp).toNat < 2 ^ 31)
      ∧ (4500 : Stamp) ≠ s.clock.now ∧ atOrAfter s.clock.now 4500 = true ∧ waiting s = [] ∧ dueExpiry s = none
      ∧ dueDeadline s = none ∧ oldestPress desk = none := by decide +kernel

theorem witness_lone_frame :
    let s := fronted (frame .halt 0 9 0 [3]) (asking .buzz desk)
    s.store.queue = frame .halt 0 9 0 [3] :: [] ∧ (frame .halt 0 9 0 [3]).claimed = false ∧ s.engine.pass = none
      ∧ s.engine.state ≠ .scoring ∧ dueExpiry s = none ∧ dueDeadline s = none ∧ oldestPress s = none := by
  decide +kernel

/-- A press before every frame, which a due expiry before it holds back. -/
theorem witness_press_held_back :
    let s := onTimer (fun t => { t with due := true })
      (timed 24000 (pressing .buzz 22000 (fronted { frame .halt 0 9 0 [3] with stamp := 23000 } (asking .buzz desk))))
    (∀ g ∈ s.store.queue, before 22000 g.stamp = true ∧ before g.stamp 22000 = false)
      ∧ dueExpiry s = some 21000 ∧ before 22000 21000 = false := by decide +kernel

/-- Own station and another; a kind that declares no team; team bytes 0, 7 and 255. -/
theorem witness_key_stations :
    keyStation (frame .halt 0 5 0 [3]).key = desk.straps.station
      ∧ keyStation (frame .halt 0 9 0 [3]).key ≠ desk.straps.station
      ∧ (0 : Team).val + 1 = max 1 (min (numAt (frame .buzz 7 9 0 [3, 0]).body 1) 7)
      ∧ (6 : Team).val + 1 = max 1 (min (numAt (frame .answer 7 9 0 [3, 255, 0, 0, 7]).body 1) 7)
      ∧ (6 : Team).val + 1 = max 1 (min (numAt (frame .tally 0 9 0 [1, 0, 7, 1, 0, 0, 0]).body 2) 7) := by
  decide +kernel

/-- A seat within each unit of the lockout set, and one that no unit names. -/
theorem witness_lockout_units :
    let s := { desk with buzz := { queue := [], lockouts := [.seat 3 1, .station 4, .team 2] } }
    lockedOut s 3 1 none = true ∧ lockedOut s 4 7 none = true ∧ lockedOut s 9 0 (some 2) = true
      ∧ lockedOut s 3 0 (some 1) = false ∧ lockedOut s 9 0 none = false := by decide +kernel

theorem witness_changed_code :
    (9 : Station) ≠ beforePass.straps.station ∧ (rosterOf beforePass 12).code ≠ some (.desk 1)
      ∧ (rosterOf beforePass 9).code ≠ some (.desk 1) := by decide +kernel

/-- A frame of station 9 in front of the engine. -/
def taking (k : Kind) (body : List Byte) (s : State) : State := fronted (frame k 0 9 0 body) s

/-- That frame. -/
def taken (k : Kind) (body : List Byte) : RxEntry := frame k 0 9 0 body

theorem witness_show_frame :
    (frontTurn (taking .newShow [0] (asking .buzz desk)) (taken .newShow [0]) ∧ (taken .newShow [0]).kind = .newShow)
      ∧ frontTurn (taking .newShow [7] desk) (taken .newShow [7]) := by decide +kernel

/-- An OPEN of the question now open, of another one, and after another show. -/
theorem witness_open_frames :
    (let s := taking .openQ [1, 3, 0, 1, 1, 1, 1, 1] (asking .buzz desk);
      frontTurn s (taken .openQ [1, 3, 0, 1, 1, 1, 1, 1]) ∧ s.engine.state.isOpen = true
        ∧ s.engine.question = some (question .buzz) ∧ (question .buzz).number = 3)
    ∧ frontTurn (taking .openQ [1, 4, 0, 1, 1, 1, 1, 1] (asking .buzz desk)) (taken .openQ [1, 4, 0, 1, 1, 1, 1, 1])
    ∧ (let s := taking .openQ [2, 0, 0xFF, 255, 255, 0, 0, 0] (asking .buzz desk);
      frontTurn s (taken .openQ [2, 0, 0xFF, 255, 255, 0, 0, 0]) ∧ s.engine.showNo ≠ 0 ∧ s.engine.showNo ≠ 2) := by
  decide +kernel

/-- Each refusal of R102's table. -/
theorem witness_question_faults :
    (∀ p ∈ [(Kind.halt, [(4 : Byte)], QuestionType.buzz, Reason.question), (.buzz, [3, 2], .poll, .state),
        (.verdict, [3, 0x48, 1], .poll, .state), (.answer, [3, 2, 0, 0, 7], .buzz, .state),
        (.reveal, [3, 1], .buzz, .state), (.resume, [3], .buzz, .state)],
      let s := taking p.1 p.2.1 (asking p.2.2.1 desk)
      frontTurn s (taken p.1 p.2.1) ∧ questionFault s (taken p.1 p.2.1) = some p.2.2.2)
    ∧ (let s := { asking .buzz desk with engine := { (asking .buzz desk).engine with state := .expired } };
      questionFault (taking .halt [3] s) (taken .halt [3]) = some .state)
    ∧ (let s := { desk with engine := { desk.engine with state := .closed, lastNo := 3 } };
      questionFault (taking .closeQ [3] s) (taken .closeQ [3]) = some .late
        ∧ questionFault (taking .closeQ [4] s) (taken .closeQ [4]) = some .state) := by decide +kernel

/-- Question 3 halted at 4500. -/
def halting : State :=
  let s := asking .buzz desk
  { s with engine := { s.engine with state := .halted }, clock := { s.clock with timer := s.clock.timer.halt 4500 } }

theorem witness_close_halt_and_resume_frames :
    (∀ k ∈ [Kind.closeQ, .halt], let s := taking k [3] (asking .buzz desk)
      frontTurn s (taken k [3]) ∧ openQuestionIs s (question .buzz)
        ∧ clampNumber (numAt (taken k [3]).body 0) = (question .buzz).number ∧ s.engine.state = .opened
        ∧ s.clock.timer.cond = .running)
    ∧ (let s := taking .resume [3] halting;
      frontTurn s (taken .resume [3]) ∧ openQuestionIs s (question .buzz)
        ∧ clampNumber (numAt (taken .resume [3]).body 0) = (question .buzz).number ∧ s.engine.state = .halted
        ∧ s.clock.timer.cond = .halted ∧ s.clock.timer.haltStamp = some 4500) := by decide +kernel

/-- A BUZZ of station 9, seat 2, team 3, with its e. -/
def buzzFrame (e : Nat) : RxEntry := frame .buzz e 9 2 [3, 3]

/-- A buzz queue entry of some station's seat 0. -/
def buzzOf (st : Station) (e : Nat) : BuzzEntry :=
  { station := st, seat := 0, team := 3, e := e, key := mkKey 3 e st 0 }

/-- That frame in front of the engine, with a buzz unit. -/
def buzzing (e : Nat) (u : BuzzUnit) : State := fronted (buzzFrame e) { asking .buzz desk with buzz := u }

/-- What every statement about a BUZZ asks of its state. -/
abbrev buzzReady (e : Nat) (s : State) : Prop :=
  frontTurn s (buzzFrame e) ∧ (buzzFrame e).kind = .buzz ∧ openQuestionIs s (question .buzz)
    ∧ (question .buzz).type = .buzz ∧ clampNumber (numAt (buzzFrame e).body 0) = (question .buzz).number ∧ buzzSound s
    ∧ (2 : Team).val + 1 = max 1 (min (numAt (buzzFrame e).body 1) 7)

theorem witness_late_buzz :
    buzzReady 20000 (buzzing 20000 buzzStart) ∧ (question .buzz).windowMs ≤ keyOrder (buzzFrame 20000).key := by
  decide +kernel

/-- Station 9's seat 2 in the queue at the last e before W. -/
theorem witness_second_buzz :
    let b : BuzzEntry := { station := 9, seat := 2, team := 2, e := 50, key := mkKey 3 50 9 2 }
    buzzReady 19999 (buzzing 19999 { queue := [b], lockouts := [] })
      ∧ keyOrder (buzzFrame 19999).key < (question .buzz).windowMs
      ∧ b.station = keyStation (buzzFrame 19999).key ∧ b.seat = keySeat (buzzFrame 19999).key := by decide +kernel

theorem witness_locked_buzz :
    buzzReady 0 (buzzing 0 { queue := [], lockouts := [.station 9] })
      ∧ lockedOut (buzzing 0 { queue := [], lockouts := [.station 9] }) 9 2 (some 2) = true := by decide +kernel

theorem witness_first_buzz :
    buzzReady 19999 (buzzing 19999 buzzStart) ∧ lockedOut (buzzing 19999 buzzStart) 9 2 (some 2) = false
      ∧ (buzzing 19999 buzzStart).buzz.queue.length < 16 := by decide +kernel

/-- A full buzz queue, e being 100 to 115, at stations 10 to 25. -/
def fullBuzz : BuzzUnit :=
  { queue := (List.range 16).map fun i => buzzOf ⟨(10 + i) % 32, Nat.mod_lt _ (by decide)⟩ (100 + i), lockouts := [] }

/-- A full queue, and a key after its last. -/
theorem witness_buzz_refused_full :
    buzzReady 116 (buzzing 116 fullBuzz) ∧ fullBuzz.queue.length = 16
      ∧ fullBuzz.queue.getLast? = some (buzzOf 25 115) ∧ (buzzOf 25 115).key < (buzzFrame 116).key := by decide +kernel

/-- A full queue, and a key just before its last. -/
theorem witness_buzz_evicts :
    buzzReady 115 (buzzing 115 fullBuzz) ∧ (buzzFrame 115).key < (buzzOf 25 115).key
      ∧ lockedOut (buzzing 115 fullBuzz) 9 2 (some 2) = false := by decide +kernel

/-- A queue of fifteen, with its last place free. -/
theorem witness_new_record :
    recordsOrdered desk.score.records ∧ desk.score.records ≠ []
      ∧ ∀ x ∈ desk.score.records, ¬(x.station = 5 ∧ x.seat = 7) := by decide +kernel

theorem witness_buzz_takes_the_last_place :
    buzzReady 115 (buzzing 115 { queue := fullBuzz.queue.dropLast, lockouts := [] })
      ∧ fullBuzz.queue.dropLast.length = 15 := by decide +kernel

/-- A VERDICT on station 12's seat 0 while that seat, with a record, has the floor. -/
def verdictOn (outcome : Byte) : State :=
  let s := asking .buzz lectern
  taking .verdict [3, 0x60, outcome] { s with
    buzz := { queue := [buzzOf 12 100], lockouts := [] }
    score := { s.score with records := [newRecord 12 0] } }

theorem witness_verdicts_on_the_floor :
    ∀ o ∈ [(1 : Byte), 2, 3], frontTurn (verdictOn o) (taken .verdict [3, 0x60, o])
      ∧ openQuestionIs (verdictOn o) (question .buzz) ∧ (question .buzz).type = .buzz
      ∧ clampNumber (numAt (taken .verdict [3, 0x60, o]).body 0) = (question .buzz).number
      ∧ (verdictOn o).buzz.queue.head? = some (buzzOf 12 100)
      ∧ (byteAt (taken .verdict [3, 0x60, o]).body 1).toNat = (buzzOf 12 100).station.val * 8 + (buzzOf 12 100).seat.val
      ∧ byteAt (taken .verdict [3, 0x60, o]).body 2 = o ∧ recordsOrdered (verdictOn o).score.records
      ∧ recordOf (verdictOn o) 12 0 = some (newRecord 12 0) := by decide +kernel

theorem witness_verdict_off_the_floor :
    let s := taking .verdict [3, 0x61, 1] (verdictOn 1)
    frontTurn s (taken .verdict [3, 0x61, 1]) ∧ openQuestionIs s (question .buzz)
      ∧ ∀ b ∈ s.buzz.queue, (byteAt (taken .verdict [3, 0x61, 1]).body 1).toNat ≠ b.station.val * 8 + b.seat.val := by
  decide +kernel

theorem witness_answer_frame :
    let s := taking .answer [3, 2, 0x28, 0, 7] (asking .poll lectern)
    frontTurn s (taken .answer [3, 2, 0x28, 0, 7]) ∧ openQuestionIs s (question .poll) ∧ (question .poll).type = .poll
      ∧ clampNumber (numAt (taken .answer [3, 2, 0x28, 0, 7]).body 0) = (question .poll).number := by decide +kernel

/-- A poll with one record of station 9's seat 1, C at 700. -/
def polled : State :=
  { asking .poll lectern with
    poll := { table := [{ station := 9, seat := 1, choice := 2, e := 700 }], tally := ⟨#[0, 0, 1, 0], rfl⟩ } }

/-- Out of range by its choice and by its e; a seat with no record; an e that is not later, and one that is. -/
theorem witness_answer_entries :
    (question .buzz).windowMs ≤ 20000 ∧ ({ question .poll with choices := 3 } : Question).choices ≤ (3 : Choice).val
      ∧ (3 : Choice).val < (question .poll).choices ∧ 19999 < (question .poll).windowMs ∧ pollOf polled 9 0 = none
      ∧ pollOrdered polled.poll.table ∧ pollOf polled 9 1 = some { station := 9, seat := 1, choice := 2, e := 700 }
      ∧ (question .poll).mode = .last ∧ tallyAgrees polled := by decide +kernel

/-- A question of three choices. -/
def three : Question := { question .poll with choices := 3 }

/-- What every statement about a REVEAL asks of its state, for a set byte and the set it comes to. -/
abbrev revealReady (byte : Byte) (set : ChoiceSet) (s : State) : Prop :=
  frontTurn s (taken .reveal [3, byte]) ∧ (taken .reveal [3, byte]).kind = .reveal ∧ openQuestionIs s three
    ∧ three.type = .poll ∧ clampNumber (numAt (taken .reveal [3, byte]).body 0) = three.number
    ∧ ∀ c : Choice,
      inSet set c = (decide (c.val < three.choices) && (byteAt (taken .reveal [3, byte]).body 1).getLsbD c.val)

/-- C and D of three choices, while the timer runs and while it is halted. -/
theorem witness_reveal_of_a_set :
    (revealReady 0x0C 4 (taking .reveal [3, 0x0C] (withQuestion three (asking .poll desk))) ∧ (4 : ChoiceSet) ≠ 0
      ∧ (asking .poll desk).clock.timer.cond = .running)
    ∧ revealReady 0x0C 4 (taking .reveal [3, 0x0C] (withQuestion three halting))
    ∧ halting.clock.timer.cond = .halted := by decide +kernel

/-- D alone of three choices. -/
theorem witness_reveal_of_an_empty_set :
    revealReady 8 0 (taking .reveal [3, 8] (withQuestion three (asking .poll desk))) := by decide +kernel

/-- Question 3 expired. -/
def expiring : State :=
  let s := timed 21500 (asking .poll desk)
  { s with
    engine := { s.engine with state := .expired }
    clock := { s.clock with timer := { s.clock.timer with cond := .expired } } }

theorem witness_reveal_after_expiry :
    revealReady 1 1 (taking .reveal [3, 1] (withQuestion three expiring))
      ∧ expiring.clock.timer.cond = .expired := by decide +kernel

theorem witness_pass_to_complete :
    beforePass.held = false ∧ beforePass.engine.state = .scoring
      ∧ beforePass.engine.question = some { question .poll with number := 6 } ∧ beforePass.engine.pass = some 1
      ∧ recordsOrdered beforePass.score.records := by decide +kernel

theorem witness_award_bounds :
    (250 ≤ 250 ∧ 1000 ≤ 120000 ∧ 120000 ≤ 120000 ∧ 119999 < 120000 ∧ 15 ≤ 15 ∧ 1 ≤ 3 ∧ 3 ≤ 3)
      ∧ (1000 ≤ 1000 ∧ 1000 ≤ 120000 ∧ 0 < 1000 ∧ 1 ≤ 1) ∧ pollOf beforePass 12 1
        = some { station := 12, seat := 1, choice := 1, e := 4391 } ∧ inSet 1 1 = false := by decide +kernel

/-! ### Witnesses: roll call and catch-up -/

/-- A ROLL of station 9, with its show and its marks. -/
def rollFrame (showNo : Byte) (cut : Bool) : RxEntry :=
  { frame .roll 0 9 0 [showNo, 0] with marks := [0x48, 0x3A, 0x3B], tailCut := cut }

/-- A show number of the station. -/
def inShow (n : Nat) (s : State) : State := { s with engine := { s.engine with showNo := n } }

/-- Another known show; an unknown one; the same one, with a tail cut; a station with a mark and one without. -/
theorem witness_roll_frames :
    (frontTurn (fronted (rollFrame 2 false) (inShow 1 desk)) (rollFrame 2 false) ∧ (1 : Nat) ≠ 0 ∧ (1 : Nat) ≠ 2)
      ∧ frontTurn (fronted (rollFrame 2 false) desk) (rollFrame 2 false) ∧ desk.engine.showNo = 0
      ∧ frontTurn (fronted (rollFrame 1 true) (inShow 1 desk)) (rollFrame 1 true)
      ∧ (rollFrame 1 true).kind = .roll ∧ (7 : Station) ≠ desk.straps.station
      ∧ (rollFrame 1 true).marks.reverse.find? (fun m => decide (m.toNat / 8 = (7 : Station).val)) = some 0x3B
      ∧ (rollFrame 1 true).marks.reverse.find? (fun m => decide (m.toNat / 8 = (8 : Station).val)) = none := by
  decide +kernel

/-- A HELLO of some station with its marks. -/
def helloFrame (st : Station) (marks : List Byte) : RxEntry := { frame .hello 0 st 0 [] with marks := marks }

/-- What a HELLO of station 5 asks of station 5 to begin a catch-up. -/
theorem witness_own_hello :
    (let s := fronted (helloFrame 5 [0x3A]) desk;
      frontTurn s (helloFrame 5 [0x3A]) ∧ keyStation (helloFrame 5 [0x3A]).key = s.straps.station
        ∧ s.store.twin = false ∧ s.store.adrift = true ∧ s.roster.catchUp.state = .none
        ∧ (s.engine.state = .standby ∨ s.engine.state = .closed) ∧ (helloFrame 5 [0x3A]).tailCut = false
        ∧ (7 : Station) ≠ s.straps.station ∧ (0x3A : Byte).toNat / 8 = (7 : Station).val ∧ (0x3A : Byte).toNat % 8 ≠ 0)
    ∧ (frontTurn (fronted (helloFrame 5 [0x28]) desk) (helloFrame 5 [0x28])
      ∧ (0x28 : Byte).toNat / 8 = desk.straps.station.val)
    ∧ (let s := inStore (fun t => { t with adrift := false }) (fronted (helloFrame 5 [0x3A]) desk);
      frontTurn s (helloFrame 5 [0x3A]) ∧ s.store.adrift = false) := by decide +kernel

/-- Another station's HELLO at a presenter, and at a desk whose TALLY stands, and does not. -/
theorem witness_other_hello :
    (frontTurn (fronted (helloFrame 9 []) lectern) (helloFrame 9 []) ∧ lectern.straps.role = .presenter
      ∧ keyStation (helloFrame 9 []).key ≠ lectern.straps.station)
    ∧ (let s := fronted (helloFrame 9 []) (queued [entry .tally 0 desk] desk);
      frontTurn s (helloFrame 9 []) ∧ stands .tally s = true)
    ∧ (let s := fronted (helloFrame 9 []) (crowded 11 desk);
      frontTurn s (helloFrame 9 []) ∧ s.straps.role = .desk 1 ∧ stands .tally s = false
        ∧ s.sched.queue.length < 12) := by decide +kernel

/-- A TALLY of station 7, of one seat, in show 1. -/
def tallyFrame : RxEntry := frame .tally 0 7 0 [1, 4, 2, 1, 0, 9, 0x30]

theorem witness_tally_frames :
    (frontTurn (fronted tallyFrame (inShow 2 desk)) tallyFrame ∧ (2 : Nat) ≠ 0 ∧ (2 : Nat) ≠ 1)
      ∧ (frontTurn (fronted tallyFrame desk) tallyFrame ∧ desk.engine.showNo = 0
        ∧ recordsOrdered desk.score.records)
      ∧ (let s := fronted { tallyFrame with stamp := 3000 } (inShow 1 (catching desk));
        frontTurn s { tallyFrame with stamp := 3000 } ∧ s.roster.catchUp.state = .waiting
          ∧ ∀ x ∈ s.roster.catchUp.expected, x ∈ s.roster.catchUp.received ++ [7])
      ∧ (7 : Station) ∉ (catching desk).roster.catchUp.received := by decide +kernel

theorem witness_deadline_reached :
    (timed 4000 (catching desk)).held = false ∧ nextWork (timed 4000 (catching desk)) = some .deadline := by
  decide +kernel

/-- 2000 ms of IDLE, with a HELLO standing, with a full queue, and with the last place free. -/
theorem witness_idle_watch :
    (let s := timed 2000 (idling (crowded 12 desk));
      s.held = false ∧ lineIdle s = true ∧ s.line.idleSince = some 0 ∧ s.clock.now = 0 + 2000
        ∧ s.roster.watchFired = false ∧ s.engine.state = .standby ∧ s.store.adrift = true
        ∧ s.roster.catchUp.state = .none ∧ stands .hello s = true ∧ 12 ≤ s.sched.queue.length)
    ∧ (let s := timed 2000 (idling (queued (List.replicate 11 (entry .buzz 1 desk)) desk));
      s.held = false ∧ lineIdle s = true ∧ s.line.idleSince = some 0 ∧ s.clock.now = 0 + 2000
        ∧ s.roster.watchFired = false ∧ s.engine.state = .standby ∧ s.store.adrift = true
        ∧ s.roster.catchUp.state = .none ∧ stands .hello s = false ∧ s.sched.queue.length < 12) := by decide +kernel

/-! ### Witnesses: the desk link -/

/-- One slot held, the other free. -/
theorem witness_slot_free :
    slotFree (linked [reply] 0 0 desk) ∧ presenterReady (linked [reply] 0 0 lectern) := by decide +kernel

/-- No question, a poll, and a question of the other type; a seat byte at the end of its range. -/
theorem witness_reads :
    slotFree lectern ∧ lectern.engine.question = none ∧ (asking .poll lectern).engine.question = some (question .poll)
      ∧ (question .poll).type = .poll ∧ (question .buzz).type ≠ .poll
      ∧ (0xFF : Byte).toNat = (31 : Station).val * 8 + (7 : Seat).val := by decide +kernel

/-- The seat with the floor, a seat behind it, and a seat that the queue does not name. -/
theorem witness_floor_places :
    let q := twoBuzzes.buzz.queue
    (∃ b, q = [] ++ b :: q.tail ∧ b.station = 5 ∧ b.seat = 1)
      ∧ (∃ a b, q = [a] ++ b :: [] ∧ b.station = 12 ∧ b.seat = 0 ∧ ¬(a.station = 12 ∧ a.seat = 0))
      ∧ ∀ b ∈ q, ¬(b.station = 9 ∧ b.seat = 0) :=
  ⟨⟨_, rfl, rfl, rfl⟩, ⟨_, _, rfl, rfl, rfl, by decide⟩, by decide⟩

/-- Adrift or not, a HELLO standing, a full queue, and the last place free. -/
theorem witness_catch_up_command :
    (desk.store.adrift = true ∧ desk.roster.catchUp.state = .none ∧ (catching desk).roster.catchUp.state ≠ .none)
      ∧ stands .hello (crowded 1 desk) = true
      ∧ (let s := queued (List.replicate 12 (entry .buzz 1 desk)) desk;
        slotFree s ∧ stands .hello s = false ∧ 12 ≤ s.sched.queue.length)
      ∧ (let s := queued (List.replicate 11 (entry .buzz 1 desk)) desk;
        slotFree s ∧ stands .hello s = false ∧ s.sched.queue.length < 12) := by decide +kernel

theorem witness_clear_line_command :
    (presenterReady (healthy .off 255 lectern) ∧ (healthy .off 255 lectern).store.health = .off)
      ∧ (let s := receiving (.tail (tailOf 2)) lectern;
        presenterReady s ∧ s.store.health ≠ .off ∧ s.store.twin = false ∧ s.line.rx = .tail (tailOf 2)) := by
  decide +kernel

/-- A queue of n entries of a kind for question 3. -/
def standing (k : Kind) (n : Nat) (s : State) : State := queued (List.replicate n (entry k 0 s)) s

theorem witness_presenter_commands :
    (∀ k ∈ [Kind.newShow, .roll], presenterReady (standing k 1 lectern) ∧ stands k (standing k 1 lectern) = true
      ∧ stands k (standing .buzz 12 lectern) = false ∧ 12 ≤ (standing .buzz 12 lectern).sched.queue.length
      ∧ ¬12 ≤ (standing .buzz 11 lectern).sched.queue.length)
    ∧ (asking .buzz lectern).engine.state.isOpen = true ∧ halting.engine.state = .halted
    ∧ lectern.engine.state.isOpen = false
    ∧ (∀ k ∈ [Kind.closeQ, .halt, .resume], standsFor k 3 (standing k 1 (asking .buzz lectern)) = true
      ∧ standsFor k 3 (standing .buzz 12 (asking .buzz lectern)) = false) := by decide +kernel

/-- An OPEN in each of its four cases; question 3 is open. -/
theorem witness_open_command :
    (presenterReady { lectern with engine := { lectern.engine with state := .scoring } })
      ∧ (let s := asking .buzz lectern;
        presenterReady s ∧ s.engine.state ≠ .scoring ∧ s.engine.state.isOpen = true
          ∧ (s.engine.question.map (·.number)).getD 0 = 3 ∧ standsFor .openQ 4 s = false)
      ∧ standsFor .openQ 3 (standing .openQ 1 lectern) = true
      ∧ 12 ≤ (standing .buzz 12 (asking .buzz lectern)).sched.queue.length := by decide +kernel

theorem witness_verdict_command :
    (presenterReady lectern ∧ lectern.engine.state.isOpen = false)
      ∧ (presenterReady (verdictOn 1) ∧ openQuestionIs (verdictOn 1) (question .buzz)
        ∧ (verdictOn 1).buzz.queue.head? = some (buzzOf 12 100) ∧ (0x60 : Byte).toNat = 12 * 8 + 0)
      ∧ standsFor .verdict 3 (standing .verdict 1 (verdictOn 1)) = true
      ∧ standsFor .verdict 3 (standing .buzz 12 (verdictOn 1)) = false := by decide +kernel

/-- The poll of an expired question at a presenter. -/
def expiredPoll : State :=
  { asking .poll lectern with engine := { (asking .poll lectern).engine with state := .expired } }

/-- An expired poll of four choices; a set byte of which the low four bits are kept. -/
theorem witness_reveal_command :
    presenterReady expiredPoll ∧ expiredPoll.engine.state = .expired
      ∧ expiredPoll.engine.question = some (question .poll) ∧ (question .poll).type = .poll
      ∧ standsFor .reveal 3 expiredPoll = false ∧ standsFor .reveal 3 (standing .reveal 1 expiredPoll) = true
      ∧ ∀ i : Fin 8, (0x0F : Byte).getLsbD i.val
          = (decide (i.val < 4 ∧ i.val < (question .poll).choices) && (0xFF : Byte).getLsbD i.val) := by decide +kernel

theorem witness_records :
    malformed 0x13 0x01 = true ∧ desk.straps.role = .desk 1 ∧ 2 ≤ (linked [reply, reply] 0 0 desk).link.replies.length
      ∧ (linked [reply, reply] 0 0 desk).held = false ∧ desk.link.rx = .hunt
      ∧ endsInsideRecord ([uartChar 0xA5, uartChar 0x01].map uartRead) = true := by decide +kernel

/-- 02, R39, and 11, R184: kinds and lengths at the edges of the table. -/
theorem test_malformed_kinds_and_lengths :
    [((0x01 : Byte), (0 : Byte)), (0x04, 1), (0x08, 0), (0x12, 7), (0x13, 2), (0x18, 0)].all
        (fun p => !malformed p.1 p.2) = true
      ∧ [((0x00 : Byte), (0 : Byte)), (0x01, 1), (0x04, 0), (0x09, 0), (0x0F, 0), (0x12, 6), (0x12, 8), (0x19, 0)].all
        (fun p => malformed p.1 p.2) = true := by decide +kernel

/-- A record broken off after noise: with a body of 79 of 80 bytes, and with none of one. -/
theorem witness_broken_record :
    (∀ b ∈ [(0x01 : Byte), 0xFF], b ≠ 0xA5) ∧ (List.replicate 79 (0xA5 : Byte)).length < (80 : Byte).toNat
      ∧ (80 : Byte).toNat ≤ 80 ∧ ([] : List Byte).length < (1 : Byte).toNat := by decide

/-- A reply and a notice being sent. -/
def linkSends (tx : LinkTx) : State := { lectern with link := { lectern.link with tx := tx } }

theorem witness_records_sent :
    (linkSends (.reply [0xA5])).link.tx = .reply [0xA5] ∧ (linkSends (.notice [0xA5])).link.tx = .notice [0xA5]
      ∧ (linkSends (.reply [0xA5])).held = false := by decide

/-! ### Witnesses: what every step keeps -/

/-- A desk with one command waiting. -/
def waiting_ : State := { desk with pending := [.catchUpCommand] }

theorem witness_step_answers : step waiting_ = .next (after .catchUpCommand { waiting_ with pending := [] }) := rfl

theorem witness_sound_scores : scoresAddUp waiting_ ∧ waiting_.score.standings = standingsOf waiting_ := by
  decide +kernel

theorem witness_sound_units :
    buzzSound waiting_ ∧ tallyAgrees waiting_ ∧ storeSound waiting_ ∧ rosterSound waiting_ ∧ queueSound waiting_ := by
  decide +kernel

theorem witness_ranges : rangesHold waiting_ :=
  And.intro (fun _ h => nomatch h) (by decide +kernel)

theorem witness_round_agrees : roundAgrees waiting_ := by
  refine ⟨rfl, rfl, rfl, rfl, rfl⟩

theorem witness_settled : settled waiting_ := fun _ =>
  ⟨⟨by decide, fun _ => ⟨rfl, by decide⟩, fun _ h => nomatch h⟩, Or.inr (Or.inr (by decide))⟩

/-! ### Witnesses: what the outputs show -/

/-- Question 3 with two seats of desk station 5 in its buzz queue, seat 0 with the floor and seat 1 behind, and with
seat 2 locked out. -/
def floored : State :=
  { asking .buzz desk with
    buzz := { queue := [buzzOf 5 100, { buzzOf 5 200 with seat := 1 }], lockouts := [.seat 5 2] } }

/-- Each row of R95's table; a fitted seat and an unfitted one; each row of R96's. -/
theorem witness_lamps :
    (desk.straps.seatCount ≤ (3 : Seat).val ∧ (2 : Seat).val < desk.straps.seatCount ∧ desk.held = false)
      ∧ (flashing 9 desk).panel.seats[(2 : Seat)].flash.isSome = true
      ∧ (seated 2 (fun p => { p with correct := true }) desk).panel.seats[(2 : Seat)].correct = true
      ∧ floored.buzz.queue.head? = some (buzzOf 5 100) ∧ (buzzOf 5 100).station = floored.straps.station
      ∧ (buzzOf 5 100).seat = 0 ∧ seatLamp floored 0 = .steady ∧ seatLamp floored 1 = .slow
      ∧ floored.engine.state.isOpen = true
      ∧ lockedOut floored floored.straps.station 2 (teamOf (some floored.straps.role)) = true
      ∧ seatLamp floored 2 = .fast ∧ seatLamp desk 2 = .dark ∧ desk.panel.reveal = none
      ∧ (after .revealTaken (taking .reveal [3, 1] (asking .poll desk))).panel.reveal = some 1 := by decide +kernel

/-- A window that a station vetoes, for a fault and for a full store; a mark to give and none; a reply and a notice. -/
theorem witness_running_outputs :
    (∀ d ∈ [Decision.faultVeto, .busyVeto],
      let w : Window := { windowOf .halt (mkKey 1 0 9 0) [3] d with driven := true }
      (receiving (.window w) desk).held = false ∧ (receiving (.window w) desk).line.rx = .window w
        ∧ w.driven = true ∧ w.decision = d)
    ∧ (sending .clear desk).line.tx = .clear ∧ (onAir 3 false .send desk).line.tx = .send
    ∧ (∀ mine ∈ [none, some 0x2A], let t : Tail := { tailOf 2 with mine := mine }
      (sending .mark (receiving (.tail t) desk)).line.tx = .mark
        ∧ (sending .mark (receiving (.tail t) desk)).line.rx = .tail t)
    ∧ (linkSends (.reply [0xA5])).link.tx = .reply [0xA5] ∧ (linkSends (.notice [0xA5])).link.tx = .notice [0xA5]
    ∧ desk.link.tx = .idle := by decide +kernel

theorem witness_display :
    lectern.straps.role = .presenter ∧ lectern.held = false ∧ desk.straps.role = .desk 1
      ∧ desk.score.standings.find? (fun x => decide (x.team = 1)) = some { team := 1, total := 0, rank := 1 }
      ∧ desk.clock.timer.warned = false
      ∧ (after .warn (timed 16000 (asking .buzz desk))).clock.timer.warned = true
      ∧ attn (linked [] 0x10 0x10 desk) = true := by decide +kernel

end Sys2Proof.Tests
end

section
/-! PROOFS. The layout of keys, marks and station and seat bytes, and what a receiver reads of them (R35, R36). -/

namespace Sys2Proof.Machine

/-! ### Values of several bytes, high byte first (2.8) -/

theorem bytes2_toNat (v : BitVec 16) : (bytes2 v).map (·.toNat) = [v.toNat / 256, v.toNat % 256] := by
  have hhigh : v.toNat / 256 % 256 = v.toNat / 256 := Nat.mod_eq_of_lt (by omega)
  simp [bytes2, BitVec.extractLsb'_toNat, Nat.shiftRight_eq_div_pow, hhigh]

theorem bytes4_toNat (x : BitVec 32) :
    (bytes4 x).map (·.toNat)
      = [x.toNat / 2 ^ 24, x.toNat / 2 ^ 16 % 256, x.toNat / 2 ^ 8 % 256, x.toNat % 256] := by
  have hhigh : x.toNat / 2 ^ 24 % 256 = x.toNat / 2 ^ 24 := Nat.mod_eq_of_lt (by omega)
  simp only [Nat.reducePow] at hhigh
  simp [bytes4, BitVec.extractLsb'_toNat, Nat.shiftRight_eq_div_pow, hhigh]

@[simp] theorem keyOfBytes_bytes4 (k : Key) : keyOfBytes (bytes4 k) = k := by
  have h16 : k.extractLsb' 24 8 ++ k.extractLsb' 16 8 = k.extractLsb' 16 16 :=
    BitVec.extractLsb'_append_extractLsb'_eq_extractLsb' rfl
  have h8 : k.extractLsb' 16 16 ++ k.extractLsb' 8 8 = k.extractLsb' 8 24 :=
    BitVec.extractLsb'_append_extractLsb'_eq_extractLsb' rfl
  have h0 : k.extractLsb' 8 24 ++ k.extractLsb' 0 8 = k.extractLsb' 0 32 :=
    BitVec.extractLsb'_append_extractLsb'_eq_extractLsb' rfl
  calc keyOfBytes (bytes4 k)
      = k.extractLsb' 24 8 ++ k.extractLsb' 16 8 ++ k.extractLsb' 8 8 ++ k.extractLsb' 0 8 := rfl
    _ = k.extractLsb' 0 32 := by rw [h16, h8, h0]
    _ = k := BitVec.extractLsb'_eq_self

/-- A byte holds the low eight bits of a number. -/
theorem eq_byteOf {b : Byte} {n : Nat} (h : b.toNat = n % 256) : b = byteOf n :=
  BitVec.eq_of_toNat_eq (by simpa using h)

/-! ### The key (R36) -/

section Key

variable {cls order : Nat} (st : Station) (seat : Seat)

/-- The fields fill the 32 bits, so that the key's value does not wrap. -/
theorem mkKey_toNat (hcls : cls < 8) (horder : order < 2 ^ 21) :
    (mkKey cls order st seat).toNat = cls * 2 ^ 29 + order * 2 ^ 8 + st.val * 8 + seat.val := by
  rw [mkKey, BitVec.toNat_ofNat]
  exact Nat.mod_eq_of_lt (by omega)

theorem bytes4_mkKey (hcls : cls < 8) (horder : order < 2 ^ 21) :
    bytes4 (mkKey cls order st seat) = [byteOf (cls * 32 + order / 2 ^ 16), byteOf (order / 2 ^ 8), byteOf order,
      byteOf (st.val * 8 + seat.val)] := by
  have hval := mkKey_toNat st seat hcls horder
  have hbytes := bytes4_toNat (mkKey cls order st seat)
  simp only [bytes4, List.map_cons, List.map_nil, List.cons.injEq, and_true] at hbytes ⊢
  obtain ⟨h3, h2, h1, h0⟩ := hbytes
  exact ⟨eq_byteOf (by omega), eq_byteOf (by omega), eq_byteOf (by omega), eq_byteOf (by omega)⟩

theorem keyClass_mkKey (hcls : cls < 8) (horder : order < 2 ^ 21) : keyClass (mkKey cls order st seat) = cls := by
  rw [keyClass, mkKey_toNat st seat hcls horder]
  omega

theorem keyOrder_mkKey (hcls : cls < 8) (horder : order < 2 ^ 21) : keyOrder (mkKey cls order st seat) = order := by
  rw [keyOrder, mkKey_toNat st seat hcls horder]
  omega

theorem keyStation_mkKey (hcls : cls < 8) (horder : order < 2 ^ 21) :
    keyStation (mkKey cls order st seat) = st := by
  apply Fin.ext
  simp only [keyStation, mkKey_toNat st seat hcls horder]
  omega

theorem keySeat_mkKey (hcls : cls < 8) (horder : order < 2 ^ 21) : keySeat (mkKey cls order st seat) = seat := by
  apply Fin.ext
  simp only [keySeat, mkKey_toNat st seat hcls horder]
  omega

end Key

/-! ### A station over a code of three bits: the station and seat byte (R36) and the mark (R35) -/

theorem stationByte_toNat (st : Station) {code : Nat} (hcode : code < 8) :
    (byteOf (st.val * 8 + code)).toNat = st.val * 8 + code := by
  rw [BitVec.toNat_ofNat]
  exact Nat.mod_eq_of_lt (by omega)

theorem upperStation_stationByte (st : Station) {code : Nat} (hcode : code < 8) :
    upperStation (byteOf (st.val * 8 + code)) = st := by
  apply Fin.ext
  simp only [upperStation, stationByte_toNat st hcode]
  omega

theorem seatByte_toNat (st : Station) (seat : Seat) : (seatByte st seat).toNat = st.val * 8 + seat.val :=
  stationByte_toNat st seat.isLt

@[simp] theorem upperStation_seatByte (st : Station) (seat : Seat) : upperStation (seatByte st seat) = st :=
  upperStation_stationByte st seat.isLt

@[simp] theorem lowerSeat_seatByte (st : Station) (seat : Seat) : lowerSeat (seatByte st seat) = seat := by
  apply Fin.ext
  simp only [lowerSeat, seatByte_toNat]
  omega

theorem roleCode_lt (r : Role) : roleCode r < 8 := by
  cases r with
  | presenter => decide
  | desk team => exact Nat.succ_lt_succ team.isLt

/-- A role is read back from any three bits that hold its code. -/
theorem roleOfCode_eq {c : BitVec 3} {r : Role} (h : c.toNat = roleCode r) : roleOfCode c = r := by
  cases r with
  | presenter => exact dif_pos h
  | desk team =>
    simp [roleOfCode, h, roleCode]

theorem markByte_toNat (st : Station) (r : Role) : (markByte st r).toNat = st.val * 8 + roleCode r :=
  stationByte_toNat st (roleCode_lt r)

@[simp] theorem upperStation_markByte (st : Station) (r : Role) : upperStation (markByte st r) = st :=
  upperStation_stationByte st (roleCode_lt r)

@[simp] theorem markRole_markByte (st : Station) (r : Role) : markRole (markByte st r) = r := by
  have hcode := roleCode_lt r
  apply roleOfCode_eq
  rw [BitVec.extractLsb'_toNat, markByte_toNat, Nat.shiftRight_zero]
  omega

end Sys2Proof.Machine
end

section

open Sys2Proof.Machine

/-- Settles O7: each layout is its value without a wrap, and each reader takes one field of that value. -/
theorem keysAndMarksAreLaidOut : Obligations.KeysAndMarksAreLaidOut := by
  unfold Obligations.KeysAndMarksAreLaidOut
  refine ⟨fun cls order st seat hcls horder => ?key, fun v x => ⟨bytes2_toNat v, bytes4_toNat x⟩,
    fun st => markByte_toNat st .presenter, fun st k => markByte_toNat st (.desk k),
    fun st r => ⟨upperStation_markByte st r, markRole_markByte st r⟩,
    fun st seat => ⟨seatByte_toNat st seat, upperStation_seatByte st seat, lowerSeat_seatByte st seat⟩⟩
  case key =>
    exact ⟨mkKey_toNat st seat hcls horder, bytes4_mkKey st seat hcls horder, keyOfBytes_bytes4 _,
      keyClass_mkKey st seat hcls horder, keyOrder_mkKey st seat hcls horder,
      keyStation_mkKey st seat hcls horder, keySeat_mkKey st seat hcls horder⟩

end

section
/-! PROOFS. What a change of a station's code makes of the team totals and the standings (R154, R155). -/

namespace Sys2Proof.Machine

open Sys2Proof.Safety

variable (s : State) (st : Station)

/-! ### The move of a contribution -/

theorem teamOf_eq_some (code : Option Role) (k : Team) : teamOf code = some k ↔ code = some (.desk k) := by
  match code with
  | none => simp [teamOf]
  | some .presenter => simp [teamOf]
  | some (.desk t) => simp [teamOf]

theorem attachedTeam_eq_some (k : Team) : attachedTeam s st = some k ↔ (rosterOf s st).code = some (.desk k) :=
  teamOf_eq_some _ k

/-- What a station contributes to its team: the sum of the totals of its seat records (R155). -/
def contribution : Int := sumTotals (fun r => decide (r.station = st)) s.score.records

/-- The old team loses the contribution and the new one gains it; where both are one team, it keeps its total. -/
theorem moveContribution_totals (old new : Option Role) (k : Team) :
    (moveContribution st old new s).score.totals[k] = s.score.totals[k]
      - (if old = some (.desk k) then contribution s st else 0)
      + (if new = some (.desk k) then contribution s st else 0) := by
  simp only [moveContribution, moveTotal_totals, teamOf_eq_some, contribution, sub_eq_add_neg, apply_ite Neg.neg,
    neg_zero]

theorem moveContribution_records (old new : Option Role) :
    (moveContribution st old new s).score.records = s.score.records := by
  simp only [moveContribution, moveTotal_records]

theorem moveContribution_standings (old new : Option Role) :
    (moveContribution st old new s).score.standings = s.score.standings := by
  simp only [moveContribution, moveTotal_standings]

/-! ### A recompute -/

/-- A recomputed list is that of the state it stands in, for the list itself is no part of what it is made from. -/
theorem recompute_standings : (recompute s).score.standings = standingsOf (recompute s) := by
  rw [recompute_score]
  exact standingsOf_congr (by simp [recompute_score]) (by simp [recompute_score]) (by simp [rosterOf])

theorem recompute_onlyRaises :
    onlyRaises [(decide ((recompute s).score.standings ≠ s.score.standings), .standings)] s (recompute s) := by
  simp [onlyRaises, pendingOf, recompute_link, recompute_score]

/-! ### The change of a code -/

/-- The own entry stays as strapped (R167). -/
theorem setCode_own (code : Role) : setCode s.straps.station code s = s := by
  simp [setCode]

section Changed

variable {s st} {code : Role} (hst : st ≠ s.straps.station) (hcode : (rosterOf s st).code ≠ some code)
include hst hcode

/-- The change of another station's code: the entry, the move of its contribution, and the recompute (R155, R168). -/
theorem setCode_changed :
    setCode st code s = recompute (moveContribution st (rosterOf s st).code (some code)
      (setEntry st { rosterOf s st with code := some code } s)) := by
  simp [setCode, hst, hcode]

theorem setCode_roster :
    (setCode st code s).roster
      = { s.roster with entries := putAt s.roster.entries st { rosterOf s st with code := some code } } := by
  simp [setCode_changed hst hcode]

theorem setCode_records : (setCode st code s).score.records = s.score.records := by
  rw [setCode_changed hst hcode, recompute_score, moveContribution_records, setEntry_score]

theorem setCode_totals (k : Team) :
    (setCode st code s).score.totals[k] = s.score.totals[k]
      - (if (rosterOf s st).code = some (.desk k) then contribution s st else 0)
      + (if code = .desk k then contribution s st else 0) := by
  simp only [setCode_changed hst hcode, recompute_score, moveContribution_totals, setEntry_score, contribution,
    Option.some.injEq]

theorem setCode_standings : (setCode st code s).score.standings = standingsOf (setCode st code s) := by
  rw [setCode_changed hst hcode, recompute_standings]

/-- The move itself raises nothing: the one notice is that of the recompute (R165). -/
theorem setCode_onlyRaises :
    onlyRaises [(decide ((setCode st code s).score.standings ≠ s.score.standings), .standings)] s
      (setCode st code s) := by
  have hraised := recompute_onlyRaises (moveContribution st (rosterOf s st).code (some code)
    (setEntry st { rosterOf s st with code := some code } s))
  rw [← setCode_changed hst hcode] at hraised
  simpa [onlyRaises, moveContribution_standings] using hraised

end Changed

end Sys2Proof.Machine
end

section

open Sys2Proof.Machine Sys2Proof.Safety

/-- Settles O32: the totals by two moves of one sum, the standings by the one recompute that a changed code ends in. -/
theorem codeChangeMovesTheContribution : Obligations.CodeChangeMovesTheContribution := by
  unfold Obligations.CodeChangeMovesTheContribution
  refine ⟨attachedTeam_eq_some, moveContribution_totals, fun s st code hst hcode => ?change, setCode_own⟩
  case change =>
    exact ⟨by simp [changesOnly], setCode_roster hst hcode, setCode_records hst hcode, setCode_totals hst hcode,
      setCode_standings hst hcode, setCode_onlyRaises hst hcode⟩

end

section
/-! PROOFS. The bounds of the award and of its parts (R156). -/

namespace Sys2Proof.Machine

variable {base windowMs e streak stake : Nat}

/-! ### The speed bonus and the streak factor -/

/-- An answer at the opening instant earns the whole bonus, half the base. -/
theorem speedBonus_zero (base : Nat) (hw : 0 < windowMs) : speedBonus base windowMs 0 = base / 2 := by
  rw [speedBonus, Nat.sub_zero, Nat.mul_div_mul_right base 2 hw]

theorem speedBonus_le_half (base e : Nat) (hw : 0 < windowMs) : speedBonus base windowMs e ≤ base / 2 :=
  calc speedBonus base windowMs e
      ≤ speedBonus base windowMs 0 := Nat.div_le_div_right (Nat.mul_le_mul_left base (by omega))
    _ = base / 2 := speedBonus_zero base hw

theorem eight_le_streakFactor (streak : Nat) : 8 ≤ streakFactor streak := Nat.le_add_right 8 _

theorem streakFactor_le_twelve (streak : Nat) : streakFactor streak ≤ 12 :=
  Nat.add_le_add_left (Nat.min_le_right streak 4) 8

/-! ### The award -/

/-- The numerator of the award before its division by 8 is at most 13,500. -/
theorem award_numerator_le (e streak : Nat) (hbase : base ≤ 250) (hw : 0 < windowMs) (hstake : stake ≤ 3) :
    (base + speedBonus base windowMs e) * streakFactor streak * stake ≤ 13500 := by
  have hbonus := speedBonus_le_half base e hw
  calc (base + speedBonus base windowMs e) * streakFactor streak * stake
      ≤ 375 * 12 * 3 :=
        Nat.mul_le_mul (Nat.mul_le_mul (by omega) (streakFactor_le_twelve streak)) hstake
    _ = 13500 := rfl

theorem awardOf_le (e streak : Nat) (hbase : base ≤ 250) (hw : 0 < windowMs) (hstake : stake ≤ 3) :
    awardOf base windowMs e streak stake ≤ 1687 :=
  Nat.div_le_div_right (c := 8) (award_numerator_le e streak hbase hw hstake)

theorem awardOf_zero_base (windowMs e streak stake : Nat) : awardOf 0 windowMs e streak stake = 0 := by
  simp [awardOf, speedBonus]

/-! ### The penalty and the pass -/

theorem penaltyOf_le {penalty : Nat} (hpenalty : penalty ≤ 250) (hstake : stake ≤ 3) :
    penaltyOf penalty stake ≤ 750 :=
  Nat.mul_le_mul hpenalty hstake

/-- A wrong choice in a poll costs no points (R161). -/
theorem passRecord_wrong_total {q : Question} {set : ChoiceSet} {s : State} {r : SeatRecord} {p : PollRecord}
    (hp : pollOf s r.station r.seat = some p) (hset : inSet set p.choice = false) :
    (passRecord q set s r).total = r.total := by
  simp [passRecord, hp, hset]

end Sys2Proof.Machine
end

section

open Sys2Proof.Machine

/-- Settles O44: the bonus is at most half the base and the factor at most 12, so the numerator is at most 13,500. -/
theorem awardAndPenaltyArithmetic : Obligations.AwardAndPenaltyArithmetic := by
  unfold Obligations.AwardAndPenaltyArithmetic
  refine ⟨?award, by decide, by decide, by decide, fun _ => rfl, fun _ _ _ => ⟨rfl, rfl⟩,
    fun _ _ => ⟨rfl, penaltyOf_le⟩, fun _ _ => ⟨rfl, rfl⟩, fun _ _ _ _ _ => passRecord_wrong_total⟩
  case award =>
    intro base windowMs e streak stake hbase hlow hhigh _ _ _ hstake bonus m
    have hw : 0 < windowMs := by omega
    refine ⟨rfl, speedBonus_le_half base e hw, ?opening, eight_le_streakFactor streak, streakFactor_le_twelve streak,
      ?dividend, by omega, award_numerator_le e streak hbase hw hstake, awardOf_le e streak hbase hw hstake, ?zero⟩
    case opening =>
      rintro rfl
      exact speedBonus_zero base hw
    case dividend =>
      exact Nat.mul_le_mul hbase ((Nat.sub_le windowMs e).trans hhigh)
    case zero =>
      rintro rfl
      exact awardOf_zero_base windowMs e streak stake

end

section
/-! PROOFS. What a census makes of the roster: each mark sets one entry, the last mark of a station stands, and behind
a complete tail the stations without a mark are absent (R167 to R169). -/

namespace Sys2Proof.Machine

open Sys2Proof.Safety

variable (s : State)

/-! ### One entry -/

theorem rosterOf_setEntry (st : Station) (e : RosterEntry) (x : Station) :
    rosterOf (setEntry st e s) x = if st = x then e else rosterOf s x := by
  simp only [rosterOf, setEntry_roster, putAt, Fin.getElem_fin, Vector.getElem_set, Fin.ext_iff]

/-- The own entry stays as strapped (R167). -/
theorem setPresent_own : setPresent s.straps.station s = s := by
  simp [setPresent]

theorem setPresent_other {st : Station} (hst : st ≠ s.straps.station) :
    setPresent st s = setEntry st { rosterOf s st with present := true } s := by
  simp [setPresent, hst]

theorem setPresent_catchUp (st : Station) : (setPresent st s).roster.catchUp = s.roster.catchUp := by
  by_cases hst : st = s.straps.station
  · rw [hst, setPresent_own]
  · rw [setPresent_other s hst, setEntry_roster]

theorem rosterOf_setPresent_own (st : Station) :
    rosterOf (setPresent st s) s.straps.station = rosterOf s s.straps.station := by
  by_cases hst : st = s.straps.station
  · rw [hst, setPresent_own]
  · rw [setPresent_other s hst, rosterOf_setEntry, if_neg hst]

/-- A code that the entry holds already changes nothing (R155). -/
theorem setCode_known {st : Station} {code : Role} (hcode : (rosterOf s st).code = some code) :
    setCode st code s = s := by
  simp [setCode, hcode]

theorem setCode_keeps (st : Station) (code : Role) :
    (setCode st code s).roster.catchUp = s.roster.catchUp
      ∧ (setCode st code s).score.records = s.score.records := by
  by_cases hst : st = s.straps.station
  · rw [hst, setCode_own]
    exact ⟨rfl, rfl⟩
  by_cases hcode : (rosterOf s st).code = some code
  · rw [setCode_known s hcode]
    exact ⟨rfl, rfl⟩
  · exact ⟨by rw [setCode_roster hst hcode], setCode_records hst hcode⟩

theorem rosterOf_setCode {st : Station} (hst : st ≠ s.straps.station) (code : Role) (x : Station) :
    rosterOf (setCode st code s) x = if st = x then { rosterOf s st with code := some code } else rosterOf s x := by
  by_cases hcode : (rosterOf s st).code = some code
  · rw [setCode_known s hcode]
    split
    next hx => rw [← hx, ← hcode]
    next => rfl
  · calc rosterOf (setCode st code s) x
        = rosterOf (setEntry st { rosterOf s st with code := some code } s) x := by
          simp only [rosterOf, setCode_roster hst hcode, setEntry_roster]
      _ = _ := rosterOf_setEntry s st _ x

/-! ### One mark (R169) -/

/-- The entry that a mark makes of its station's. -/
def markedEntry (mark : Byte) : RosterEntry := { code := some (markRole mark), present := true }

theorem applyMark_own {mark : Byte} (h : upperStation mark = s.straps.station) : applyMark s mark = s := by
  rw [applyMark, h, setPresent_own, setCode_own]

/-- A mark sets its station's entry, unless that is the own one, and leaves every other. -/
theorem rosterOf_applyMark (mark : Byte) (x : Station) :
    rosterOf (applyMark s mark) x
      = if upperStation mark = x ∧ x ≠ s.straps.station then markedEntry mark else rosterOf s x := by
  by_cases hown : upperStation mark = s.straps.station
  · rw [applyMark_own s hown, if_neg fun h => h.2 (h.1.symm.trans hown)]
  · have hheard : upperStation mark ≠ (setPresent (upperStation mark) s).straps.station := by simpa using hown
    rw [applyMark, rosterOf_setCode _ hheard, setPresent_other s hown]
    by_cases hx : upperStation mark = x
    · subst hx
      simp [rosterOf_setEntry, hown, markedEntry]
    · simp [rosterOf_setEntry, hx]

theorem applyMark_keeps (mark : Byte) :
    (applyMark s mark).roster.catchUp = s.roster.catchUp ∧ (applyMark s mark).score.records = s.score.records := by
  obtain ⟨hcatch, hrecords⟩ := setCode_keeps (setPresent (upperStation mark) s) (upperStation mark) (markRole mark)
  exact ⟨hcatch.trans (setPresent_catchUp s _), hrecords.trans (by simp)⟩

/-! ### The marks of a tail (R169) -/

/-- The last mark of a station in slot order. -/
def lastMark (marks : List Byte) (st : Station) : Option Byte :=
  marks.reverse.find? fun m => decide (m.toNat / 8 = st.val)

theorem upperStation_eq_iff (mark : Byte) (st : Station) : upperStation mark = st ↔ mark.toNat / 8 = st.val :=
  Fin.ext_iff

theorem lastMark_append (marks : List Byte) (mark : Byte) (st : Station) :
    lastMark (marks ++ [mark]) st = if upperStation mark = st then some mark else lastMark marks st := by
  simp only [lastMark, List.reverse_append, List.reverse_singleton, List.singleton_append, List.find?_cons,
    upperStation_eq_iff]
  by_cases hmark : mark.toNat / 8 = st.val <;> simp [hmark]

theorem lastMark_isSome (marks : List Byte) (st : Station) :
    (lastMark marks st).isSome = marks.any fun m => decide (upperStation m = st) := by
  rw [Bool.eq_iff_iff]
  simp only [lastMark, List.find?_isSome, List.any_eq_true, List.mem_reverse, upperStation_eq_iff]

theorem applyMarks_straps (marks : List Byte) : (marks.foldl applyMark s).straps = s.straps :=
  foldl_keeps State.straps _ (fun _ _ => by simp) _ _

theorem applyMarks_keeps (marks : List Byte) :
    (marks.foldl applyMark s).roster.catchUp = s.roster.catchUp
      ∧ (marks.foldl applyMark s).score.records = s.score.records :=
  ⟨foldl_keeps (fun t => t.roster.catchUp) _ (fun t mark => (applyMark_keeps t mark).1) _ _,
    foldl_keeps (fun t => t.score.records) _ (fun t mark => (applyMark_keeps t mark).2) _ _⟩

/-- By induction on the slots: a later mark of a station overwrites an earlier one. -/
theorem rosterOf_applyMarks (marks : List Byte) {st : Station} (hst : st ≠ s.straps.station) :
    rosterOf (marks.foldl applyMark s) st = (lastMark marks st).elim (rosterOf s st) markedEntry := by
  induction marks using List.reverseRecOn with
  | nil => rfl
  | append_singleton marks mark ih =>
    rw [List.foldl_append, List.foldl_cons, List.foldl_nil, rosterOf_applyMark, applyMarks_straps, lastMark_append, ih]
    by_cases hmark : upperStation mark = st
    · simp [hmark, hst]
    · simp [hmark]

theorem rosterOf_applyMarks_own (marks : List Byte) :
    rosterOf (marks.foldl applyMark s) s.straps.station = rosterOf s s.straps.station := by
  induction marks using List.reverseRecOn with
  | nil => rfl
  | append_singleton marks mark ih =>
    rw [List.foldl_append, List.foldl_cons, List.foldl_nil, rosterOf_applyMark, applyMarks_straps,
      if_neg fun h => h.2 rfl, ih]

/-! ### The absences of a complete tail (R169) -/

theorem rosterOf_markAbsent (marks : List Byte) (st : Station) :
    rosterOf (markAbsent marks s) st
      = if st = s.straps.station ∨ (lastMark marks st).isSome then rosterOf s st
        else { rosterOf s st with present := false } := by
  simp [rosterOf, markAbsent, lastMark_isSome]

theorem markAbsent_catchUp (marks : List Byte) :
    (markAbsent marks s).roster.catchUp = s.roster.catchUp := by
  simp [markAbsent]

/-! ### The census (R169) -/

theorem rosterOf_census (f : RxEntry) {st : Station} (hst : st ≠ s.straps.station) :
    rosterOf (census f s) st = (lastMark f.marks st).elim
      { rosterOf s st with present := f.tailCut && (rosterOf s st).present } markedEntry := by
  have hmarks := rosterOf_applyMarks s f.marks hst
  cases hcut : f.tailCut with
  | true => simpa [census, hcut] using hmarks
  | false =>
    cases hlast : lastMark f.marks st <;>
      simp [census, hcut, rosterOf_markAbsent, applyMarks_straps, hmarks, hst, hlast]

theorem rosterOf_census_own (f : RxEntry) :
    rosterOf (census f s) s.straps.station = rosterOf s s.straps.station := by
  have hmarks := rosterOf_applyMarks_own s f.marks
  cases hcut : f.tailCut with
  | true => simpa [census, hcut] using hmarks
  | false => simpa [census, hcut, rosterOf_markAbsent, applyMarks_straps] using hmarks

theorem census_keeps (f : RxEntry) :
    (census f s).roster.catchUp = s.roster.catchUp ∧ (census f s).score.records = s.score.records := by
  obtain ⟨hcatch, hrecords⟩ := applyMarks_keeps s f.marks
  unfold census
  split
  · exact ⟨hcatch, hrecords⟩
  · exact ⟨by rw [markAbsent_catchUp, hcatch], by rw [markAbsent_score, hrecords]⟩

/-! ### A ROLL (R170) -/

theorem hearFrame_roll {f : RxEntry} (hkind : f.kind = .roll) : hearFrame f s = setPresent (keyStation f.key) s := by
  simp [hearFrame, declaredTeam, hkind]

section Turn

variable {s} {f : RxEntry} (hturn : frontTurn s f) (hkind : f.kind = .roll)
include hturn hkind

/-- A ROLL begins no pass, so that it is released in the step that takes it. -/
theorem exec_rollTaken : exec .rollTaken s = .next (settle (releaseFront (dealRoll f (hearFrame f s)))) := by
  obtain ⟨_, -, -, hpass, -⟩ := frontTurn_facts hturn
  refine takeFront_released hturn hkind ?_
  unfold dealRoll
  split <;> simp [hpass]

theorem exec_rollTaken_refused (hknown : s.engine.showNo ≠ 0)
    (hother : s.engine.showNo ≠ clampNumber (numAt f.body 0)) :
    exec .rollTaken s = .next (settle (releaseFront (refuseFrame f .showDiffers (hearFrame f s)))) := by
  rw [exec_rollTaken hturn hkind, dealRoll, if_pos]
  simpa using ⟨hknown, hother⟩

theorem exec_rollTaken_census (hshow : s.engine.showNo = 0 ∨ s.engine.showNo = clampNumber (numAt f.body 0)) :
    exec .rollTaken s = .next (settle (releaseFront (census f (hearFrame f s)))) := by
  rw [exec_rollTaken hturn hkind, dealRoll, if_neg]
  simpa [or_iff_not_imp_left] using hshow

end Turn

end Sys2Proof.Machine
end

section

open Sys2Proof.Machine Sys2Proof.Safety

/-- Settles O45: the marks by induction on their slots, the last of a station standing; the absences entry by entry. -/
theorem rollTakenIsACensus : Obligations.RollTakenIsACensus := by
  unfold Obligations.RollTakenIsACensus
  intro s f hturn hkind h show_ last
  refine ⟨exec_rollTaken_refused hturn hkind, fun hshow => ?taken⟩
  case taken =>
    have hheard : h = setPresent (keyStation f.key) s := hearFrame_roll s hkind
    have hstraps : h.straps = s.straps := by simp [hheard]
    obtain ⟨hcatch, hrecords⟩ := census_keeps h f
    refine ⟨census f h, exec_rollTaken_census hturn hkind hshow, rfl, by simp [changesOnly], ?catchUp, ?records, ?own,
      fun st hst => ?other⟩
    case catchUp => rw [hcatch, hheard, setPresent_catchUp]
    case records => exact hrecords.trans (by simp [hheard])
    case own => rw [← hstraps, rosterOf_census_own, hstraps, hheard, rosterOf_setPresent_own]
    case other =>
      have hentry := rosterOf_census h f (hstraps ▸ hst)
      refine ⟨fun m hmark => ?marked, fun hnone => ?unmarked⟩
      case marked => exact hentry.trans (congrArg (Option.elim · _ markedEntry) hmark)
      case unmarked => exact hentry.trans (congrArg (Option.elim · _ markedEntry) hnone)

end

section
/-! PROOFS. What a step can do: the effect of each command, and the five forms that a next state has. -/

namespace Sys2Proof.Machine

/-- The effect of each command that the settling follows; the three commands of the pins that hold or start the part
have none. -/
def effectOf : Instr → State → Option State
  | .powerUp _ | .resetAssert | .resetRelease _ => fun _ => none
  | .idle => idleEffect
  | .startEdgeSeen fresh => startEdgeEffect fresh
  | .quietStart => quietStartEffect
  | .longIdle => longIdleEffect
  | .characterComplete char framing => characterEffect char framing
  | .missingStartBit => missingStartEffect
  | .lost => lostEffect
  | .disturbed => disturbedEffect
  | .verdict faultHalf busyHalf stillDominant => verdictEffect faultHalf busyHalf stillDominant
  | .heldVerdictActed => heldVerdictEffect
  | .tailSlot char framing => tailSlotEffect char framing
  | .tailEndEmptySlot => tailEndEffect
  | .clearPulse => clearPulseEffect
  | .clearPulseEnd => clearPulseEndEffect
  | .stuckLine => stuckLineEffect
  | .lineFaultClear => lineFaultClearEffect
  | .acceptedPress seat key => acceptedPressEffect seat key
  | .acceptedRelease seat key => acceptedReleaseEffect seat key
  | .refusalFlashEnd seat => flashEndEffect seat
  | .warn => warnEffect
  | .expiryDue => expiryDueEffect
  | .expiryEvent => expiryEffect
  | .press => pressEffect
  | .showTaken => takeFront .newShow dealShow
  | .openTaken => takeFront .openQ dealOpen
  | .closeTaken => takeFront .closeQ dealClose
  | .haltTaken => takeFront .halt (withQuestion haltQuestion)
  | .resumeTaken => takeFront .resume (withQuestion resumeQuestion)
  | .verdictTaken => takeFront .verdict (withQuestion dealVerdict)
  | .buzzTaken => takeFront .buzz (withQuestion dealBuzz)
  | .answerTaken => takeFront .answer (withQuestion dealAnswer)
  | .revealTaken => takeFront .reveal (withQuestion dealReveal)
  | .rollTaken => takeFront .roll dealRoll
  | .helloTaken => takeFront .hello dealHello
  | .tallyTaken => takeFront .tally dealTally
  | .scorePassComplete => passCompleteEffect
  | .catchUpDeadline => deadlineEffect
  | .idleWatch => idleWatchEffect
  | .recordAbandon chars => abandonEffect chars
  | .recordLost => lostRecordEffect
  | .malformedRecord kind length => malformedEffect kind length
  | .statusCommand => commandEffect .status
  | .standingsCommand => commandEffect .standings
  | .floorCommand => commandEffect .floor
  | .seatCommand target => commandEffect (.seat target)
  | .votesCommand => commandEffect .votes
  | .rosterCommand => commandEffect .roster
  | .noticesCommand mask => commandEffect (.notices mask)
  | .catchUpCommand => commandEffect .catchUp
  | .startShowCommand showNo => commandEffect (.startShow showNo)
  | .rollCommand => commandEffect .roll
  | .openCommand question mode base penalty stake window lead =>
    commandEffect (.openQ question mode base penalty stake window lead)
  | .verdictCommand target outcome => commandEffect (.verdict target outcome)
  | .closeCommand => commandEffect .closeQ
  | .revealCommand set => commandEffect (.reveal set)
  | .haltCommand => commandEffect .halt
  | .resumeCommand => commandEffect .resume
  | .clearLineCommand => commandEffect .clearLine
  | .replySent => replySentEffect
  | .noticeSent => noticeSentEffect
  | .keyScan readings => keyScanEffect readings

/-- A command of the pins that hold or start the part (R181). -/
inductive IsPower : Instr → Prop
  | powerUp (pins : PowerPins) : IsPower (.powerUp pins)
  | resetAssert : IsPower .resetAssert
  | resetRelease (pins : StrapPins) : IsPower (.resetRelease pins)

/-- Every other command is its effect in its occasion, and the settling. -/
theorem exec_eq_event {c : Instr} (h : ¬IsPower c) : exec c = event (effectOf c) := by
  cases c with
  | powerUp pins => exact absurd (.powerUp pins) h
  | resetAssert => exact absurd .resetAssert h
  | resetRelease pins => exact absurd (.resetRelease pins) h
  | _ => rfl

/-- What the execution of a command can make of a state: it is held, or started, or left, or the settling of an
effect. -/
inductive Executes (c : Instr) (s : State) : State → Prop
  | held (power : Power) (hpower : power.resetActive = true ∨ power.supplyGood = false) : Executes c s (hold power s)
  | started (power : Power) (pins : StrapPins) : Executes c s (latchAndStart power pins s)
  | left : Executes c s s
  | settled {u : State} (hheld : s.held = false) (heffect : effectOf c s = some u) : Executes c s (settle u)

theorem event_cases {effect : State → Option State} {s t : State} (h : event effect s = .next t) :
    t = s ∨ s.held = false ∧ ∃ u, effect s = some u ∧ t = settle u := by
  cases hheld : s.held with
  | true => simp_all [event]
  | false =>
    cases he : effect s with
    | none => rw [event_none hheld he] at h; exact .inl (by simpa using h.symm)
    | some u => rw [event_next hheld he] at h; exact .inr ⟨rfl, u, rfl, by simpa using h.symm⟩

theorem exec_cases {c : Instr} {s t : State} (h : exec c s = .next t) : Executes c s t := by
  by_cases hc : IsPower c
  · cases hc with
    | powerUp pins =>
      simp only [exec, execPowerUp, Host.Outcome.next.injEq] at h
      subst h
      split
      · exact .started _ _
      · next hgood => exact .held _ (.inr (by simpa using hgood))
    | resetAssert =>
      simp only [exec, execResetAssert, Host.Outcome.next.injEq] at h
      subst h
      exact .held _ (.inl rfl)
    | resetRelease pins =>
      simp only [exec, execResetRelease, Host.Outcome.next.injEq] at h
      subst h
      split
      · exact .started _ _
      · exact .left
  · rw [exec_eq_event hc] at h
    obtain rfl | ⟨hheld, u, hu, rfl⟩ := event_cases h
    · exact .left
    · exact .settled hheld hu

/-- Every step keeps a condition that a millisecond, a hold, a start and every settled effect keep, and that does not
speak of the waiting commands. -/
theorem step_keeps {P : State → Prop} (pending : ∀ s p, P s → P { s with pending := p })
    (tick : ∀ s, P s → P (tickClock s))
    (held : ∀ s power, power.resetActive = true ∨ power.supplyGood = false → P s → P (hold power s))
    (started : ∀ s power pins, P (latchAndStart power pins s))
    (effect : ∀ c s u, s.held = false → P s → effectOf c s = some u → P (settle u)) :
    ∀ s t, P s → step s = .next t → P t := by
  intro s t hs h
  unfold step at h
  cases hp : s.pending with
  | nil =>
    simp only [hp, Host.Outcome.next.injEq] at h
    subst h
    unfold idleStep
    split
    · exact hs
    · exact tick s hs
  | cons c rest =>
    simp only [hp] at h
    have hs' := pending s rest hs
    cases exec_cases h with
    | held power hpower => exact held _ power hpower hs'
    | started power pins => exact started _ power pins
    | left => exact hs'
    | settled hheld he => exact effect c _ _ hheld hs' he

theorem occasion_eq_some {c : Bool} {t u : State} : occasion c t = some u ↔ c = true ∧ t = u := by
  cases c <;> simp [occasion]

end Sys2Proof.Machine
end

section
/-! PROOFS. The desk link but for its notices: no operation of another block changes more of it than a raising does
(R187). -/

namespace Sys2Proof.Machine

variable (s : State)

/-- The desk link with no notice raised and no FAULT reason kept. -/
def unraised (l : DeskLink) : DeskLink := { l with raised := 0, faultReason := none }

theorem unraised_congr {l m : DeskLink} (h : unraised l = unraised m) :
    l.rx = m.rx ∧ l.replies = m.replies ∧ l.tx = m.tx ∧ l.overrun = m.overrun ∧ l.mask = m.mask := by
  simpa [unraised] using h

@[simp] theorem unraised_with (l : DeskLink) (raised : BitVec 7) (why : Option FaultReason) :
    unraised { l with raised := raised, faultReason := why } = unraised l := rfl

@[simp] theorem raise_unraised (n : Notice) : unraised (raise n s).link = unraised s.link := rfl

@[simp] theorem raiseIf_unraised (c : Bool) (n : Notice) : unraised (raiseIf c n s).link = unraised s.link :=
  by cases c <;> rfl

@[simp] theorem raiseFault_unraised (why : FaultReason) : unraised (raiseFault why s).link = unraised s.link := rfl

@[simp] theorem setCatchUp_unraised (c : CatchUp) : unraised (setCatchUp c s).link = unraised s.link :=
  by simp [setCatchUp]

@[simp] theorem setAdrift_unraised : unraised (setAdrift s).link = unraised s.link := by simp [setAdrift]

@[simp] theorem setHealth_unraised (h : Health) : unraised (setHealth h s).link = unraised s.link := by simp [setHealth]

@[simp] theorem enterOff_unraised : unraised (enterOff s).link = unraised s.link := by simp [enterOff]

@[simp] theorem addHealth_unraised (n : Nat) : unraised (addHealth n s).link = unraised s.link :=
  by unfold addHealth; (repeat' split) <;> simp

@[simp] theorem subHealth_unraised : unraised (subHealth s).link = unraised s.link :=
  by unfold subHealth; (repeat' split) <;> simp

@[simp] theorem setTwin_unraised (key : Key) : unraised (setTwin key s).link = unraised s.link := by simp [setTwin]

@[simp] theorem failed_unraised : unraised (failed s).link = unraised s.link :=
  by unfold failed; (repeat' split) <;> simp

@[simp] theorem delivered_unraised : unraised (delivered s).link = unraised s.link :=
  by unfold delivered; (repeat' split) <;> simp

@[simp] theorem storeFrame_unraised (f : RxEntry) : unraised (storeFrame f s).link = unraised s.link :=
  by unfold storeFrame; (repeat' split) <;> simp

@[simp] theorem twinTest_unraised (own : Bool) (key : Key) : unraised (twinTest own key s).link = unraised s.link :=
  by unfold twinTest; (repeat' split) <;> simp

@[simp] theorem takeFrame_unraised (own : Bool) (f : Partial) (stamp : Stamp) : unraised (takeFrame own f stamp s).link = unraised s.link :=
  by unfold takeFrame; (repeat' split) <;> simp

@[simp] theorem ownOutcome_unraised (v : Verdict) : unraised (ownOutcome v s).link = unraised s.link :=
  by cases v <;> simp [ownOutcome]

@[simp] theorem faultsFound_unraised (own : Bool) (f : Partial) : unraised (faultsFound own f s).link = unraised s.link :=
  by simp only [faultsFound]; (repeat' split) <;> simp

@[simp] theorem actVerdict_unraised (v : Verdict) (w : Window) (stamp : Stamp) : unraised (actVerdict v w stamp s).link = unraised s.link :=
  by simp only [actVerdict]; (repeat' split) <;> simp

@[simp] theorem countLongIdle_unraised : unraised (countLongIdle s).link = unraised s.link :=
  by unfold countLongIdle; (repeat' split) <;> simp

@[simp] theorem recompute_unraised : unraised (recompute s).link = unraised s.link := by simp [recompute]

@[simp] theorem giveSeat_unraised (st : Station) (seat : Seat) : unraised (giveSeat st seat s).link = unraised s.link :=
  by unfold giveSeat; (repeat' split) <;> simp

@[simp] theorem beginScores_unraised : unraised (beginScores s).link = unraised s.link := by simp [beginScores]

@[simp] theorem setCode_unraised (st : Station) (code : Role) : unraised (setCode st code s).link = unraised s.link :=
  by simp only [setCode]; (repeat' split) <;> simp

@[simp] theorem hearFrame_unraised (f : RxEntry) : unraised (hearFrame f s).link = unraised s.link :=
  by simp only [hearFrame]; (repeat' split) <;> simp

@[simp] theorem applyMark_unraised (mark : Byte) : unraised (applyMark s mark).link = unraised s.link :=
  by simp [applyMark]

@[simp] theorem census_unraised (f : RxEntry) : unraised (census f s).link = unraised s.link := by
  simp only [census]
  split <;> simp [foldl_keeps (fun t => unraised t.link) applyMark applyMark_unraised]

@[simp] theorem catchUpDone_unraised (expected received : List Station) : unraised (catchUpDone expected received s).link = unraised s.link :=
  by simp [catchUpDone]

@[simp] theorem abandonCatchUp_unraised : unraised (abandonCatchUp s).link = unraised s.link :=
  by unfold abandonCatchUp; (repeat' split) <;> simp

@[simp] theorem beginCatchUp_unraised (f : RxEntry) : unraised (beginCatchUp f s).link = unraised s.link :=
  by simp only [beginCatchUp]; (repeat' split) <;> simp

@[simp] theorem dealHello_unraised (f : RxEntry) : unraised (dealHello f s).link = unraised s.link :=
  by simp only [dealHello]; (repeat' split) <;> simp

@[simp] theorem dealRoll_unraised (f : RxEntry) : unraised (dealRoll f s).link = unraised s.link :=
  by unfold dealRoll; (repeat' split) <;> simp

@[simp] theorem adoptShow_unraised (f : RxEntry) : unraised (adoptShow f s).link = unraised s.link :=
  by simp only [adoptShow]; (repeat' split) <;> simp

@[simp] theorem receiveTally_unraised (st : Station) : unraised (receiveTally st s).link = unraised s.link :=
  by simp only [receiveTally]; (repeat' split) <;> simp

@[simp] theorem overwriteSeats_unraised (st : Station) (body : List Byte) : unraised (overwriteSeats st body s).link = unraised s.link :=
  by
  simp [overwriteSeats, foldl_keeps State.link _ fun t seat => (overwriteSeat_frame t st body _ seat).2.2.2.2.2.2.2.2.2.2.2.1]

@[simp] theorem dealTally_unraised (f : RxEntry) : unraised (dealTally f s).link = unraised s.link :=
  by simp only [dealTally]; (repeat' split) <;> simp

@[simp] theorem emptyBuzz_unraised : unraised (emptyBuzz s).link = unraised s.link := by simp [emptyBuzz]

@[simp] theorem emptyPoll_unraised : unraised (emptyPoll s).link = unraised s.link := by simp [emptyPoll]

@[simp] theorem forgetQuestion_unraised : unraised (forgetQuestion s).link = unraised s.link := rfl

@[simp] theorem dropQuestion_unraised : unraised (dropQuestion s).link = unraised s.link := by simp [dropQuestion]

@[simp] theorem enterClosed_unraised : unraised (enterClosed s).link = unraised s.link := by simp [enterClosed]

@[simp] theorem endQuestion_unraised : unraised (endQuestion s).link = unraised s.link := by simp [endQuestion]

@[simp] theorem settleShow_unraised (n : Nat) : unraised (settleShow n s).link = unraised s.link :=
  by simp only [settleShow]; (repeat' split) <;> simp

@[simp] theorem openQuestion_unraised (f : RxEntry) : unraised (openQuestion f s).link = unraised s.link :=
  by simp only [openQuestion]; (repeat' split) <;> simp

@[simp] theorem dealOpen_unraised (f : RxEntry) : unraised (dealOpen f s).link = unraised s.link :=
  by unfold dealOpen; (repeat' split) <;> simp

@[simp] theorem dealShow_unraised (f : RxEntry) : unraised (dealShow f s).link = unraised s.link :=
  by simp only [dealShow]; (repeat' split) <;> simp

@[simp] theorem judgeCorrect_unraised (q : Question) (b : BuzzEntry) : unraised (judgeCorrect q b s).link = unraised s.link :=
  by simp [judgeCorrect]

@[simp] theorem judgeWrong_unraised (q : Question) (b : BuzzEntry) : unraised (judgeWrong q b s).link = unraised s.link :=
  by simp [judgeWrong]

@[simp] theorem changeBuzz_unraised (q : List BuzzEntry) : unraised (changeBuzz q s).link = unraised s.link := rfl

@[simp] theorem dealBuzz_unraised (f : RxEntry) (q : Question) : unraised (dealBuzz f q s).link = unraised s.link :=
  by simp only [dealBuzz]; (repeat' split) <;> simp

@[simp] theorem verdictCorrect_unraised (q : Question) (b : BuzzEntry) : unraised (verdictCorrect q b s).link = unraised s.link :=
  by simp only [verdictCorrect]; (repeat' split) <;> simp

@[simp] theorem verdictWrong_unraised (q : Question) (b : BuzzEntry) : unraised (verdictWrong q b s).link = unraised s.link :=
  by simp [verdictWrong]

@[simp] theorem verdictVoid_unraised (b : BuzzEntry) : unraised (verdictVoid b s).link = unraised s.link :=
  by simp only [verdictVoid]; (repeat' split) <;> simp

@[simp] theorem dealVerdict_unraised (f : RxEntry) (q : Question) : unraised (dealVerdict f q s).link = unraised s.link :=
  by simp only [dealVerdict]; (repeat' split) <;> simp

@[simp] theorem createPoll_unraised (r : PollRecord) : unraised (createPoll r s).link = unraised s.link :=
  by simp [createPoll]

@[simp] theorem judgeAnswer_unraised (st : Station) (q : Question) (a : AnswerEntry) : unraised (judgeAnswer st q s a).link = unraised s.link :=
  by simp only [judgeAnswer]; (repeat' split) <;> simp

@[simp] theorem dealAnswer_unraised (f : RxEntry) (q : Question) : unraised (dealAnswer f q s).link = unraised s.link :=
  by
  simp [dealAnswer, foldl_keeps (fun t => unraised t.link) _ fun t a => judgeAnswer_unraised t _ q a]

@[simp] theorem beginPass_unraised (f : RxEntry) (set : ChoiceSet) : unraised (beginPass f set s).link = unraised s.link :=
  by simp [beginPass]

@[simp] theorem dealReveal_unraised (f : RxEntry) (q : Question) : unraised (dealReveal f q s).link = unraised s.link :=
  by simp only [dealReveal]; (repeat' split) <;> simp

end Sys2Proof.Machine
end

section
/-! PROOFS. What the effect of a command can be, by the part of the station that it belongs to: the blocks that it can
change, or the turn of the round engine that it is. -/

namespace Sys2Proof.Machine

open Sys2Proof.Safety

variable {s u : State}

/-! ### Entries of the roster that stand -/

@[simp] theorem setCatchUp_entries (c : CatchUp) (s : State) : (setCatchUp c s).roster.entries = s.roster.entries := by
  simp [setCatchUp_roster]

@[simp] theorem setAdrift_entries (s : State) : (setAdrift s).roster.entries = s.roster.entries := by
  simp [setAdrift_roster]

@[simp] theorem storeFrame_entries (f : RxEntry) (s : State) :
    (storeFrame f s).roster.entries = s.roster.entries := by
  unfold storeFrame; split <;> simp

@[simp] theorem takeFrame_entries (own : Bool) (f : Partial) (stamp : Stamp) (s : State) :
    (takeFrame own f stamp s).roster.entries = s.roster.entries := by
  unfold takeFrame; split <;> simp

@[simp] theorem actVerdict_entries (v : Verdict) (w : Window) (stamp : Stamp) (s : State) :
    (actVerdict v w stamp s).roster.entries = s.roster.entries := by
  simp only [actVerdict]; (repeat' split) <;> simp

/-- The catch-up record stands, or an adrift that is set has ended it (R171). -/
def catchUpEndedOrKept (s u : State) : Prop :=
  u.roster.catchUp = s.roster.catchUp ∨ u.roster.catchUp = catchUpNone

theorem storeFrame_catchUp (f : RxEntry) (s : State) : catchUpEndedOrKept s (storeFrame f s) := by
  unfold storeFrame
  split
  · exact .inl rfl
  · exact .inr (by rw [setAdrift_roster])

theorem takeFrame_catchUp (own : Bool) (f : Partial) (stamp : Stamp) (s : State) :
    catchUpEndedOrKept s (takeFrame own f stamp s) := by
  unfold takeFrame
  split
  · exact .inl rfl
  · simpa [catchUpEndedOrKept] using storeFrame_catchUp _ (subHealth (twinTest own (keyOfBytes f.chars) s))

theorem actVerdict_catchUp (v : Verdict) (w : Window) (stamp : Stamp) (s : State) :
    catchUpEndedOrKept s (actVerdict v w stamp s) := by
  have hcounted : (faultsFound (awaitsVerdict s) w.frame (if awaitsVerdict s then ownOutcome v s else s)).roster
      = s.roster := by split <;> simp
  simp only [actVerdict, catchUpEndedOrKept, leaveWindow_frame]
  split
  · exact .inl (by rw [hcounted])
  · split
    · exact .inr (by rw [setAdrift_roster])
    · have htaken := takeFrame_catchUp (awaitsVerdict s) w.frame stamp
        (faultsFound (awaitsVerdict s) w.frame (if awaitsVerdict s then ownOutcome v s else s))
      rw [catchUpEndedOrKept, hcounted] at htaken
      exact htaken

/-! ### The line (01) -/

/-- The effect of a command of the theatre line. -/
inductive LineEffect (s u : State) : Prop
  | idle (h : idleEffect s = some u)
  | startEdge (fresh : Bool) (h : startEdgeEffect fresh s = some u)
  | quietStart (h : quietStartEffect s = some u)
  | longIdle (h : longIdleEffect s = some u)
  | character (char : Byte) (framing : Bool) (h : characterEffect char framing s = some u)
  | missingStart (h : missingStartEffect s = some u)
  | lost (h : lostEffect s = some u)
  | disturbed (h : disturbedEffect s = some u)
  | verdict (faultHalf busyHalf stillDominant : Bool) (h : verdictEffect faultHalf busyHalf stillDominant s = some u)
  | heldVerdict (h : heldVerdictEffect s = some u)
  | tailSlot (char : Byte) (framing : Bool) (h : tailSlotEffect char framing s = some u)
  | tailEnd (h : tailEndEffect s = some u)
  | clearPulse (h : clearPulseEffect s = some u)
  | clearPulseEnd (h : clearPulseEndEffect s = some u)
  | stuckLine (h : stuckLineEffect s = some u)
  | lineFaultClear (h : lineFaultClearEffect s = some u)

/-- What a command of the theatre line can change: the line, the queue, the store, the catch-up record and the
notices. -/
def lineOnly (s u : State) : Prop :=
  changesOnly [.line, .sched, .store, .roster, .link] s u ∧ u.roster.entries = s.roster.entries
    ∧ unraised u.link = unraised s.link ∧ catchUpEndedOrKept s u

theorem idleEffect_lineOnly (h : idleEffect s = some u) : lineOnly s u := by
  obtain ⟨-, rfl⟩ := occasion_eq_some.mp h
  simp [lineOnly, changesOnly, catchUpEndedOrKept]

theorem startEdgeEffect_lineOnly {fresh : Bool} (h : startEdgeEffect fresh s = some u) : lineOnly s u := by
  obtain ⟨-, rfl⟩ := occasion_eq_some.mp h
  (repeat' split) <;> simp [lineOnly, changesOnly, catchUpEndedOrKept]

theorem quietStartEffect_lineOnly (h : quietStartEffect s = some u) : lineOnly s u := by
  obtain ⟨-, rfl⟩ := occasion_eq_some.mp h
  split <;> simp [lineOnly, changesOnly, catchUpEndedOrKept]

theorem longIdleEffect_lineOnly (h : longIdleEffect s = some u) : lineOnly s u := by
  obtain ⟨-, rfl⟩ := occasion_eq_some.mp h
  simp [lineOnly, changesOnly, catchUpEndedOrKept]

theorem characterEffect_lineOnly {char : Byte} {framing : Bool} (h : characterEffect char framing s = some u) :
    lineOnly s u := by
  obtain ⟨-, rfl⟩ := occasion_eq_some.mp h
  simp [lineOnly, changesOnly, catchUpEndedOrKept]

theorem missingStartEffect_lineOnly (h : missingStartEffect s = some u) : lineOnly s u := by
  unfold missingStartEffect at h
  split at h <;> cases h <;> simp [lineOnly, changesOnly, catchUpEndedOrKept]

theorem lostEffect_lineOnly (h : lostEffect s = some u) : lineOnly s u := by
  obtain ⟨-, rfl⟩ := occasion_eq_some.mp h
  simp [lineOnly, changesOnly, catchUpEndedOrKept]

theorem disturbedEffect_lineOnly (h : disturbedEffect s = some u) : lineOnly s u := by
  obtain ⟨-, rfl⟩ := occasion_eq_some.mp h
  simp [lineOnly, changesOnly, catchUpEndedOrKept]

theorem verdictEffect_lineOnly {faultHalf busyHalf stillDominant : Bool}
    (h : verdictEffect faultHalf busyHalf stillDominant s = some u) : lineOnly s u := by
  unfold verdictEffect at h
  split at h
  · obtain ⟨-, rfl⟩ := occasion_eq_some.mp h
    split
    · simp [lineOnly, changesOnly, catchUpEndedOrKept]
    · simpa [lineOnly, changesOnly] using actVerdict_catchUp _ _ _ s
  · cases h

theorem heldVerdictEffect_lineOnly (h : heldVerdictEffect s = some u) : lineOnly s u := by
  unfold heldVerdictEffect at h
  split at h
  · split at h
    · obtain ⟨-, rfl⟩ := occasion_eq_some.mp h
      simpa [lineOnly, changesOnly] using actVerdict_catchUp _ _ _ s
    · cases h
  · cases h

theorem tailSlotEffect_lineOnly {char : Byte} {framing : Bool} (h : tailSlotEffect char framing s = some u) :
    lineOnly s u := by
  unfold tailSlotEffect at h
  split at h
  · simp only at h
    (repeat' split at h) <;> cases h <;> simp [lineOnly, changesOnly, catchUpEndedOrKept]
  · cases h

theorem tailEndEffect_lineOnly (h : tailEndEffect s = some u) : lineOnly s u := by
  unfold tailEndEffect at h
  split at h <;> cases h
  simp [lineOnly, changesOnly, catchUpEndedOrKept]

theorem clearPulseEffect_lineOnly (h : clearPulseEffect s = some u) : lineOnly s u := by
  obtain ⟨-, rfl⟩ := occasion_eq_some.mp h
  split <;> simp [lineOnly, changesOnly, catchUpEndedOrKept]

theorem clearPulseEndEffect_lineOnly (h : clearPulseEndEffect s = some u) : lineOnly s u := by
  obtain ⟨-, rfl⟩ := occasion_eq_some.mp h
  simp [lineOnly, changesOnly, catchUpEndedOrKept]

theorem stuckLineEffect_lineOnly (h : stuckLineEffect s = some u) : lineOnly s u := by
  obtain ⟨-, rfl⟩ := occasion_eq_some.mp h
  simp [lineOnly, changesOnly, catchUpEndedOrKept]

theorem lineFaultClearEffect_lineOnly (h : lineFaultClearEffect s = some u) : lineOnly s u := by
  obtain ⟨-, rfl⟩ := occasion_eq_some.mp h
  simp [lineOnly, changesOnly, catchUpEndedOrKept]

theorem LineEffect.lineOnly (h : LineEffect s u) : lineOnly s u := by
  cases h with
  | idle h => exact idleEffect_lineOnly h
  | startEdge _ h => exact startEdgeEffect_lineOnly h
  | quietStart h => exact quietStartEffect_lineOnly h
  | longIdle h => exact longIdleEffect_lineOnly h
  | character _ _ h => exact characterEffect_lineOnly h
  | missingStart h => exact missingStartEffect_lineOnly h
  | lost h => exact lostEffect_lineOnly h
  | disturbed h => exact disturbedEffect_lineOnly h
  | verdict _ _ _ h => exact verdictEffect_lineOnly h
  | heldVerdict h => exact heldVerdictEffect_lineOnly h
  | tailSlot _ _ h => exact tailSlotEffect_lineOnly h
  | tailEnd h => exact tailEndEffect_lineOnly h
  | clearPulse h => exact clearPulseEffect_lineOnly h
  | clearPulseEnd h => exact clearPulseEndEffect_lineOnly h
  | stuckLine h => exact stuckLineEffect_lineOnly h
  | lineFaultClear h => exact lineFaultClearEffect_lineOnly h

/-! ### The seat panel and the round clock (05) -/

/-- What a command of the seat panel can change: the panel and the theatre clock. -/
def panelOnly (s u : State) : Prop := changesOnly [.panel, .clock] s u ∧ u.clock.timer = s.clock.timer

theorem thirdReading_panelOnly (seat : Seat) (key : PadKey) (s : State) : panelOnly s (thirdReading seat key s) := by
  simp only [panelOnly, changesOnly, thirdReading]
  split <;> simp

theorem flashEndEffect_panelOnly {seat : Seat} (h : flashEndEffect seat s = some u) : panelOnly s u := by
  unfold flashEndEffect at h
  split at h
  · obtain ⟨-, rfl⟩ := occasion_eq_some.mp h
    simp [panelOnly, changesOnly]
  · cases h

/-- A scan's readings, one key after another, move nothing but the panel. -/
theorem scanKeys_frame (readings : BitVec 40) (keys : List (Seat × PadKey)) (s : State) :
    changesOnly [.panel] s (keys.foldl (fun t at_ => scanKey readings at_ t) s) := by
  induction keys generalizing s with
  | nil => simp [changesOnly]
  | cons key keys ih =>
    have := ih (scanKey readings key s)
    simpa [changesOnly] using this

theorem keyScanEffect_panelOnly {readings : BitVec 40} (h : keyScanEffect readings s = some u) : panelOnly s u := by
  simp only [keyScanEffect, Option.some.injEq] at h
  subst h
  generalize hkeys : List.filter _ _ = keys
  have hframe := scanKeys_frame readings keys
    (setScanned (BitVec.allOnes 40) (if s.clock.scanned = BitVec.allOnes 40 then tickClock s else s))
  split at hframe <;> simp_all [panelOnly, changesOnly]

/-- What an event of the question timer can change: its marks that it has warned and that its expiry is due. -/
def timerOnly (s u : State) : Prop :=
  changesOnly [.clock] s u ∧ u.clock.now = s.clock.now
    ∧ ∃ warned due, u.clock.timer = { s.clock.timer with warned := warned, due := due }

theorem warnEffect_timerOnly (h : warnEffect s = some u) : timerOnly s u := by
  obtain ⟨-, rfl⟩ := occasion_eq_some.mp h
  simp [timerOnly, changesOnly]

theorem expiryDueEffect_timerOnly (h : expiryDueEffect s = some u) : timerOnly s u := by
  obtain ⟨-, rfl⟩ := occasion_eq_some.mp h
  simp [timerOnly, changesOnly]

/-! ### The round engine (06) -/

/-- What the round engine makes of a frame of each kind. -/
def dealOf : Kind → RxEntry → State → State
  | .newShow => dealShow
  | .openQ => dealOpen
  | .closeQ => dealClose
  | .halt => withQuestion haltQuestion
  | .resume => withQuestion resumeQuestion
  | .verdict => withQuestion dealVerdict
  | .buzz => withQuestion dealBuzz
  | .answer => withQuestion dealAnswer
  | .reveal => withQuestion dealReveal
  | .roll => dealRoll
  | .hello => dealHello
  | .tally => dealTally

/-- The front frame dealt with, and released unless it began a pass (R66, R114). -/
def turnOf (f : RxEntry) (s : State) : State :=
  let dealt := dealOf f.kind f (hearFrame f s)
  if dealt.engine.pass.isSome then dealt else releaseFront dealt

/-- A press judged, the oldest having left its latch list (R88, R115). -/
def pressOf (seat : Seat) (p : Press) (s : State) : State := judgePress seat p (dropPress seat s)

/-- The expiry event taken (R83, R112). -/
def expired (s : State) : State :=
  raise .round (setEngine (fun g => { g with state := .expired }) (setTimer s.clock.timer.expire s))

/-- The completion of a score pass (R162). -/
def passCompleted (q : Question) (set : ChoiceSet) (s : State) : State :=
  releaseFront (enterClosed (dropQuestion (recompute (sweep q set s))))

/-! ### The desk link (11) -/

/-- What a command of the desk link can change: the line, by a clear pulse, the transmit queue and the link. -/
def linkOnly (s u : State) : Prop := changesOnly [.line, .sched, .link] s u

theorem linkOnly_trans {t : State} (h : linkOnly s t) (h' : linkOnly t u) : linkOnly s u := by
  simp_all [linkOnly, changesOnly]

theorem settle_linkOnly (s : State) : linkOnly s (settle s) := by
  simp [linkOnly, changesOnly]

/-- The ordered tests of a command end in a refusal or in the passing. -/
theorem tested_cases (tests : List (Bool × Refused)) (pass : Ruling) (s : State) :
    (∃ why, tested tests pass s = refuse why s) ∨ tested tests pass s = pass ∧ ∀ t ∈ tests, t.1 = false := by
  unfold tested
  split
  · exact .inl ⟨_, rfl⟩
  · next hnone => exact .inr ⟨rfl, by simpa using hnone⟩

/-- What a command leaves: the state as it was, a new mask, an entry placed in a queue with room, or a clear pulse
begun. -/
inductive Obeyed (s : State) : State → Prop
  | left : Obeyed s s
  | masked (mask : BitVec 7) : Obeyed s (setMask mask s)
  | placed (e : TxEntry) (hretry : e.retry = 0) (hflight : e.inFlight = false) (hroom : queueFull s = false) :
      Obeyed s (place e s)
  | pulsed : Obeyed s (startPulse s)

/-- The tests pass or refuse, so that the ruling leaves what the passing leaves or the state as it was. -/
theorem tested_obeyed {tests : List (Bool × Refused)} {pass : Ruling}
    (h : (∀ t ∈ tests, t.1 = false) → Obeyed s pass.after) : Obeyed s (tested tests pass s).after := by
  obtain ⟨why, hw⟩ | ⟨hp, ht⟩ := tested_cases tests pass s
  · rw [hw]; exact .left
  · rw [hp]; exact h ht

theorem ruleOnQuestion_obeyed (kind : Kind) (fits : Bool) (s : State) : Obeyed s (ruleOnQuestion kind fits s).after :=
  tested_obeyed fun h => .placed _ rfl rfl (h (queueFull s, .busy) (by simp))

theorem obey_obeyed (c : Command) (s : State) : Obeyed s (obey c s).after := by
  cases c with
  | status | standings | floor | seat _ | votes | roster => exact .left
  | notices m => exact .masked _
  | catchUp =>
    refine tested_obeyed fun h => ?_
    have hs : stands .hello s = false := h (stands .hello s, .duplicate) (by simp)
    simp only [requestHello, hs]
    exact .placed _ rfl rfl (h (queueFull s, .busy) (by simp))
  | startShow n => exact tested_obeyed fun h => .placed _ rfl rfl (h (queueFull s, .busy) (by simp))
  | roll => exact tested_obeyed fun h => .placed _ rfl rfl (h (queueFull s, .busy) (by simp))
  | openQ q m b p k w l => exact tested_obeyed fun h => .placed _ rfl rfl (h (queueFull s, .busy) (by simp))
  | verdict t o => exact tested_obeyed fun h => .placed _ rfl rfl (h (queueFull s, .busy) (by simp))
  | reveal set => exact tested_obeyed fun h => .placed _ rfl rfl (h (queueFull s, .busy) (by simp))
  | closeQ | halt | resume => exact ruleOnQuestion_obeyed _ _ s
  | clearLine => exact tested_obeyed fun _ => .pulsed

theorem rule_obeyed (c : Option Command) (s : State) : Obeyed s (rule c s).after := by
  unfold rule
  split
  · exact .left
  · split
    · exact .left
    · exact obey_obeyed _ s

theorem Obeyed.linkOnly (h : Obeyed s u) : linkOnly s u := by
  cases h <;> simp [Machine.linkOnly, changesOnly]

theorem Obeyed.unraised_eq (h : Obeyed s u) : u.link.replies = s.link.replies ∧ u.link.tx = s.link.tx := by
  cases h <;> simp

theorem recordDone_linkOnly (kind : Byte) (c : Option Command) (s : State) : linkOnly s (recordDone kind c s) := by
  unfold recordDone
  split
  · simp [linkOnly, changesOnly]
  · simpa [linkOnly, changesOnly, formReply] using (rule_obeyed c s).linkOnly

theorem recvByte_linkOnly (s : State) (b : LinkByte) : linkOnly s (recvByte s b) := by
  have hrx : linkOnly s (setRecordRx (rxStep s.link.rx b).1 s) := by simp [linkOnly, changesOnly]
  unfold recvByte
  simp only
  split
  · exact linkOnly_trans (linkOnly_trans hrx (recordDone_linkOnly _ _ _)) (settle_linkOnly _)
  · exact hrx

theorem recvBytes_linkOnly (bytes : List LinkByte) (s : State) : linkOnly s (bytes.foldl recvByte s) := by
  induction bytes generalizing s with
  | nil => simp [linkOnly, changesOnly]
  | cons b bytes ih => exact linkOnly_trans (recvByte_linkOnly s b) (ih _)

/-- A command of the desk link: what arrives, and the ends of the records sent. -/
inductive LinkEffect (s : State) : State → Prop
  | abandoned (bytes : List LinkByte) : LinkEffect s (setRecordRx .hunt (bytes.foldl recvByte s))
  | lost : LinkEffect s (loseRecord s)
  | done (kind : Byte) (c : Option Command) : LinkEffect s (recordDone kind c s)
  | replySent (bytes : List Byte) (h : s.link.tx = .reply bytes) :
      LinkEffect s { s with link := { s.link with tx := .idle, replies := s.link.replies.tail } }
  | noticeSent (bytes : List Byte) (h : s.link.tx = .notice bytes) :
      LinkEffect s { s with link := { s.link with tx := .idle } }

theorem LinkEffect.linkOnly (h : LinkEffect s u) : linkOnly s u := by
  cases h with
  | abandoned bytes => simpa [Machine.linkOnly, changesOnly] using recvBytes_linkOnly bytes s
  | done kind c => exact recordDone_linkOnly kind c s
  | _ => simp [Machine.linkOnly, changesOnly]

/-! ### Every effect -/

/-- The commands of a scan, which may fall at the next value of the theatre clock (log entry 9). -/
inductive Scans : Instr → Prop
  | keyScan (readings : BitVec 40) : Scans (.keyScan readings)
  | acceptedPress (seat : Seat) (key : PadKey) : Scans (.acceptedPress seat key)
  | acceptedRelease (seat : Seat) (key : PadKey) : Scans (.acceptedRelease seat key)

/-- The theatre clock stands, or a command of a scan falls at its next value. -/
def movesClock (c : Instr) (s u : State) : Prop :=
  u.clock.now = s.clock.now ∨ Scans c ∧ u.clock.now = s.clock.now + 1

theorem thirdReading_movesClock {c : Instr} (hc : Scans c) (seat : Seat) (key : PadKey) (s : State) :
    movesClock c s (thirdReading seat key s) := by
  simp only [movesClock, thirdReading]
  split <;> simp [hc]

theorem keyScanEffect_movesClock {readings : BitVec 40} (h : keyScanEffect readings s = some u) :
    movesClock (.keyScan readings) s u := by
  simp only [keyScanEffect, Option.some.injEq] at h
  subst h
  have hframe := fun keys t => (scanKeys_frame readings keys t).2.2.2.2.2.2.2.1 (by simp)
  rw [movesClock, hframe]
  split <;> simp [Scans.keyScan]

theorem flashEndEffect_movesClock {c : Instr} {seat : Seat} (h : flashEndEffect seat s = some u) :
    movesClock c s u := by
  unfold flashEndEffect at h
  split at h
  · obtain ⟨-, rfl⟩ := occasion_eq_some.mp h
    simp [movesClock]
  · cases h

/-- What the effect of a command can be. -/
inductive Effect (c : Instr) (s : State) : State → Prop
  | line {u : State} (h : LineEffect s u) : Effect c s u
  | panel {u : State} (h : panelOnly s u) (hnow : movesClock c s u) : Effect c s u
  | timer {u : State} (h : timerOnly s u) : Effect c s u
  | press (seat : Seat) (p : Press) : Effect c s (pressOf seat p s)
  | expiry (hwork : nextWork s = some .expiry) (hstate : s.engine.state = .opened) : Effect c s (expired s)
  | turn (f : RxEntry) (rest : List RxEntry) (hqueue : s.store.queue = f :: rest) (hwork : nextWork s = some .frame) :
      Effect c s (turnOf f s)
  | pass (q : Question) (set : ChoiceSet) (hq : s.engine.question = some q) (hset : s.engine.pass = some set)
      (hstate : s.engine.state = .scoring) : Effect c s (passCompleted q set s)
  | deadline : Effect c s (abandonCatchUp s)
  | watch : Effect c s (requestHello { s with roster := { s.roster with watchFired := true } })
  | link {u : State} (h : LinkEffect s u) : Effect c s u

theorem takeFront_effect {c : Instr} {k : Kind} (h : takeFront k (dealOf k) s = some u) : Effect c s u := by
  unfold takeFront at h
  split at h
  · next f rest hq =>
    obtain ⟨hc, rfl⟩ := occasion_eq_some.mp h
    simp only [Bool.and_eq_true, decide_eq_true_eq] at hc
    obtain ⟨hw, rfl⟩ := hc
    exact .turn f rest hq hw
  · cases h

theorem effectOf_effect {c : Instr} (h : effectOf c s = some u) : Effect c s u := by
  cases c with
  | powerUp _ | resetAssert | resetRelease _ => cases h
  | idle => exact .line (.idle h)
  | startEdgeSeen _ => exact .line (.startEdge _ h)
  | quietStart => exact .line (.quietStart h)
  | longIdle => exact .line (.longIdle h)
  | characterComplete _ _ => exact .line (.character _ _ h)
  | missingStartBit => exact .line (.missingStart h)
  | lost => exact .line (.lost h)
  | disturbed => exact .line (.disturbed h)
  | verdict _ _ _ => exact .line (.verdict _ _ _ h)
  | heldVerdictActed => exact .line (.heldVerdict h)
  | tailSlot _ _ => exact .line (.tailSlot _ _ h)
  | tailEndEmptySlot => exact .line (.tailEnd h)
  | clearPulse => exact .line (.clearPulse h)
  | clearPulseEnd => exact .line (.clearPulseEnd h)
  | stuckLine => exact .line (.stuckLine h)
  | lineFaultClear => exact .line (.lineFaultClear h)
  | acceptedPress seat key =>
    obtain ⟨-, rfl⟩ := occasion_eq_some.mp h
    exact .panel (thirdReading_panelOnly seat key s) (thirdReading_movesClock (.acceptedPress seat key) seat key s)
  | acceptedRelease seat key =>
    obtain ⟨-, rfl⟩ := occasion_eq_some.mp h
    exact .panel (thirdReading_panelOnly seat key s) (thirdReading_movesClock (.acceptedRelease seat key) seat key s)
  | refusalFlashEnd _ => exact .panel (flashEndEffect_panelOnly h) (flashEndEffect_movesClock h)
  | keyScan _ => exact .panel (keyScanEffect_panelOnly h) (keyScanEffect_movesClock h)
  | warn => exact .timer (warnEffect_timerOnly h)
  | expiryDue => exact .timer (expiryDueEffect_timerOnly h)
  | expiryEvent =>
    obtain ⟨hc, rfl⟩ := occasion_eq_some.mp h
    simp only [Bool.and_eq_true, decide_eq_true_eq] at hc
    exact .expiry hc.1 hc.2
  | press =>
    simp only [effectOf, pressEffect] at h
    split at h
    · next seat p _ =>
      obtain ⟨-, rfl⟩ := occasion_eq_some.mp h
      exact .press seat p
    · cases h
  | showTaken | openTaken | closeTaken | haltTaken | resumeTaken | verdictTaken | buzzTaken | answerTaken
  | revealTaken | rollTaken | helloTaken | tallyTaken => exact takeFront_effect h
  | scorePassComplete =>
    simp only [effectOf, passCompleteEffect] at h
    split at h
    · next set q hset hq =>
      obtain ⟨hc, rfl⟩ := occasion_eq_some.mp h
      exact .pass q set hq hset (by simpa using hc)
    · cases h
  | catchUpDeadline =>
    obtain ⟨-, rfl⟩ := occasion_eq_some.mp h
    exact .deadline
  | idleWatch =>
    simp only [effectOf, idleWatchEffect] at h
    split at h
    · obtain ⟨-, rfl⟩ := occasion_eq_some.mp h
      exact .watch
    · cases h
  | recordAbandon chars =>
    cases h
    exact .link (.abandoned _)
  | recordLost =>
    obtain ⟨-, rfl⟩ := occasion_eq_some.mp h
    exact .link .lost
  | malformedRecord kind length =>
    obtain ⟨-, rfl⟩ := occasion_eq_some.mp h
    exact .link (.done _ _)
  | replySent =>
    simp only [effectOf, replySentEffect] at h
    split at h <;> cases h
    next bytes htx => exact .link (.replySent bytes htx)
  | noticeSent =>
    simp only [effectOf, noticeSentEffect] at h
    split at h <;> cases h
    next bytes htx => exact .link (.noticeSent bytes htx)
  | statusCommand | standingsCommand | floorCommand | seatCommand _ | votesCommand | rosterCommand
  | noticesCommand _ | catchUpCommand | startShowCommand _ | rollCommand | openCommand _ _ _ _ _ _ _
  | verdictCommand _ _ | closeCommand | revealCommand _ | haltCommand | resumeCommand | clearLineCommand =>
    cases h
    exact .link (.done _ _)

end Sys2Proof.Machine
end

section
/-! PROOFS. After every step both transmitters are at rest or at work (R9, R10, R43, R183, R188). -/

namespace Sys2Proof.Machine

open Sys2Proof.Safety

variable {s u : State}

/-! ### Turns of the round engine leave the link but for its notices -/

theorem withQuestion_cases (deal : RxEntry → Question → State → State) (f : RxEntry) (s : State) :
    (∃ why, withQuestion deal f s = refuseFrame f why s)
      ∨ ∃ q, questionTest f s = .ok q ∧ withQuestion deal f s = deal f q s := by
  unfold withQuestion
  split
  · next q hq => exact .inr ⟨q, hq, rfl⟩
  · next why _ => exact .inl ⟨why, rfl⟩

theorem withQuestion_unraised {deal : RxEntry → Question → State → State}
    (hdeal : ∀ f q s, unraised (deal f q s).link = unraised s.link) (f : RxEntry) (s : State) :
    unraised (withQuestion deal f s).link = unraised s.link := by
  obtain ⟨why, hw⟩ | ⟨q, -, hq⟩ := withQuestion_cases deal f s
  · rw [hw]; rfl
  · rw [hq, hdeal]

theorem dealOf_unraised (k : Kind) (f : RxEntry) (s : State) : unraised (dealOf k f s).link = unraised s.link := by
  cases k with
  | newShow => exact dealShow_unraised s f
  | openQ => exact dealOpen_unraised s f
  | closeQ => exact withQuestion_unraised (fun _ _ s => endQuestion_unraised s) f s
  | halt => exact withQuestion_unraised (deal := haltQuestion) (fun _ _ _ => rfl) f s
  | resume => exact withQuestion_unraised (deal := resumeQuestion) (fun _ _ _ => rfl) f s
  | verdict => exact withQuestion_unraised (fun f q s => dealVerdict_unraised s f q) f s
  | buzz => exact withQuestion_unraised (fun f q s => dealBuzz_unraised s f q) f s
  | answer => exact withQuestion_unraised (fun f q s => dealAnswer_unraised s f q) f s
  | reveal => exact withQuestion_unraised (fun f q s => dealReveal_unraised s f q) f s
  | roll => exact dealRoll_unraised s f
  | hello => exact dealHello_unraised s f
  | tally => exact dealTally_unraised s f

theorem turnOf_unraised (f : RxEntry) (s : State) : unraised (turnOf f s).link = unraised s.link := by
  simp only [turnOf]
  split <;> simp [dealOf_unraised]

/-! ### The slots of the desk link (R183) -/

/-- At most two slots are held, and a reply being sent holds the first (R183). -/
def slotsSound (s : State) : Prop :=
  s.link.replies.length ≤ 2 ∧ ∀ bytes, s.link.tx = .reply bytes → s.link.replies ≠ []

theorem slotsSound_congr (hs : slotsSound s) (hr : u.link.replies = s.link.replies) (ht : u.link.tx = s.link.tx) :
    slotsSound u := by
  simpa [slotsSound, hr, ht] using hs

theorem slotsSound_of_unraised (hs : slotsSound s) (h : unraised u.link = unraised s.link) : slotsSound u :=
  let ⟨_, hr, ht, _⟩ := unraised_congr h
  slotsSound_congr hs hr ht

theorem settle_slotsSound (hs : slotsSound s) : slotsSound (settle s) := by
  obtain ⟨hlen, hreply⟩ := hs
  have hline : slotsSound (settleTx s) := ⟨by simpa using hlen, by simpa using hreply⟩
  unfold settle settleLink
  split
  · next hwaiting =>
    simp only [settleTx_frame] at hwaiting
    exact ⟨hline.1, fun _ _ => by simp [hwaiting]⟩
  · exact ⟨hline.1, fun _ h => by simp at h⟩
  · exact hline

theorem recordDone_slotsSound (kind : Byte) (c : Option Command) (hs : slotsSound s) :
    slotsSound (recordDone kind c s) := by
  obtain ⟨hreplies, -⟩ := (rule_obeyed c s).unraised_eq
  unfold recordDone
  split
  · exact hs
  · next hfree =>
    simp only [slotsHeld, decide_eq_true_eq, Config.inputSlots] at hfree
    exact ⟨by simp only [formReply, hreplies, List.length_append, List.length_singleton]; omega,
      fun _ _ => by simp [formReply]⟩

theorem recvByte_slotsSound (b : LinkByte) (hs : slotsSound s) : slotsSound (recvByte s b) := by
  unfold recvByte
  simp only
  split
  · exact settle_slotsSound (recordDone_slotsSound _ _ hs)
  · exact hs

theorem recvBytes_slotsSound (bytes : List LinkByte) (hs : slotsSound s) : slotsSound (bytes.foldl recvByte s) := by
  induction bytes generalizing s with
  | nil => exact hs
  | cons b bytes ih => exact ih (recvByte_slotsSound b hs)

theorem LinkEffect.slotsSound (h : LinkEffect s u) (hs : slotsSound s) : slotsSound u := by
  cases h with
  | abandoned bytes => exact recvBytes_slotsSound bytes hs
  | lost => exact hs
  | done kind c => exact recordDone_slotsSound kind c hs
  | replySent bytes _ =>
    exact ⟨by have := hs.1; simp only [List.length_tail]; omega, fun _ h => by simp at h⟩
  | noticeSent bytes _ => exact ⟨hs.1, fun _ h => by simp at h⟩

theorem Effect.slotsSound {c : Instr} (h : Effect c s u) (hs : slotsSound s) : slotsSound u := by
  cases h with
  | line h =>
    have hframe := h.lineOnly
    exact slotsSound_of_unraised hs hframe.2.2.1
  | panel h => exact slotsSound_congr hs (by simp_all [panelOnly, changesOnly]) (by simp_all [panelOnly, changesOnly])
  | timer h => exact slotsSound_congr hs (by simp_all [timerOnly, changesOnly]) (by simp_all [timerOnly, changesOnly])
  | press seat p => exact slotsSound_congr hs (by simp [pressOf]) (by simp [pressOf])
  | expiry _ _ => exact slotsSound_of_unraised hs rfl
  | turn f _ _ _ => exact slotsSound_of_unraised hs (turnOf_unraised f s)
  | pass q set _ _ _ => exact slotsSound_of_unraised hs (by simp [passCompleted])
  | deadline => exact slotsSound_of_unraised hs (by simp)
  | watch => exact slotsSound_congr hs (by simp) (by simp)
  | link h => exact h.slotsSound hs

/-! ### The desk-link transmitter at rest (R183, R188) -/

/-- A set of notice kinds with none of the seven in it is empty. -/
theorem notices_eq_zero {m : BitVec 7} (h : ∀ n : Notice, m.getLsbD (noticeBit n) = false) : m = 0 := by
  apply BitVec.eq_of_getLsbD_eq
  intro i hi
  simp only [BitVec.ofNat_eq_ofNat, BitVec.getLsbD_zero]
  match i, hi with
  | 0, _ => exact h .floor
  | 1, _ => exact h .round
  | 2, _ => exact h .standings
  | 3, _ => exact h .poll
  | 4, _ => exact h .health
  | 5, _ => exact h .fault
  | 6, _ => exact h .catchUp

theorem nextNotice_eq_none : nextNotice s = none ↔ s.link.raised &&& s.link.mask = 0 := by
  constructor
  · intro h
    apply notices_eq_zero
    intro n
    have hall := List.find?_eq_none.mp h
    simpa using hall n (by cases n <;> simp)
  · intro h
    simp [nextNotice, h]

theorem settleLink_linkSettled (hs : slotsSound s) : linkSettled (settleLink s) := by
  obtain ⟨hlen, hreply⟩ := hs
  unfold settleLink
  split
  · next hwaiting => exact ⟨hlen, by simp, fun _ _ => by simp [hwaiting]⟩
  · exact ⟨hlen, by simp, by simp⟩
  · next hreplies hnotice =>
    refine ⟨hlen, fun hidle => ?_, hreply⟩
    have hnil : s.link.replies = [] := by
      cases hr : s.link.replies with
      | nil => rfl
      | cons r rest => exact (hreplies r rest hidle hr).elim
    have hnone : nextNotice s = none := by
      cases hn : nextNotice s with
      | none => rfl
      | some n => exact (hnotice n hidle hnil hn).elim
    exact ⟨hnil, nextNotice_eq_none.mp hnone⟩

/-! ### The line transmitter at rest (R9, R10, R43) -/

@[simp] theorem offered_setTx (tx : TxState) : offered (setTx tx s) = offered s := rfl

@[simp] theorem lineIdle_setTx (tx : TxState) : lineIdle (setTx tx s) = lineIdle s := rfl

@[simp] theorem maySend_setTx (tx : TxState) : maySend (setTx tx s) = maySend s := rfl

/-- What is offered depends on the queue, the receive queue and the round state alone (R43, R176). -/
theorem offered_congr {a b : State} (hsched : b.sched = a.sched) (hstore : b.store = a.store)
    (hengine : b.engine = a.engine) : offered b = offered a := by
  have heligible : eligible b = eligible a := by funext e; simp [eligible, tallyLifted, hstore, hengine]
  simp [offered, inFlight?, hsched, heligible]

theorem lineSettled_of_frame {a b : State} (h : lineSettled a) (hline : b.line = a.line) (hsched : b.sched = a.sched)
    (hstore : b.store = a.store) (hengine : b.engine = a.engine) : lineSettled b := by
  simpa [lineSettled, hline, hsched, hstore, offered_congr hsched hstore hengine, maySend, lineIdle] using h

theorem settleTx_lineSettled (s : State) : lineSettled (settleTx s) := by
  unfold settleTx
  split
  case h_4 h1 h2 h3 =>
    unfold lineSettled
    split <;> simp_all
  all_goals
    split
    · exact .inl (by simpa using ‹(!maySend s) = true›)
    · next hsend =>
      split
      · next hidle =>
        split
        · next hnone => exact .inr (.inl ⟨hidle, hnone⟩)
        · next e he =>
          split
          · next hquiet => exact ⟨by simpa using hsend, hidle, hquiet.1, by simp [he]⟩
          · trivial
      · next hbusy =>
        cases hq : s.sched.queue with
        | nil => exact .inr (.inr ⟨by simpa using hbusy, hq⟩)
        | cons e rest => exact ⟨by simpa using hsend, by simpa using hbusy, by simp [hq]⟩

/-! ### Every step -/

theorem settle_settled (hs : slotsSound s) : linkSettled (settle s) ∧ lineSettled (settle s) :=
  ⟨settleLink_linkSettled (slotsSound_congr hs (by simp) (by simp)),
    lineSettled_of_frame (settleTx_lineSettled s) (by simp [settle]) (by simp [settle]) (by simp [settle])
      (by simp [settle])⟩

theorem latchAndStart_settled (power : Power) (pins : StrapPins) (s : State) :
    settled (latchAndStart power pins s) := by
  intro _
  exact ⟨⟨Nat.zero_le 2, fun _ => ⟨rfl, BitVec.zero_and⟩, fun _ h => nomatch h⟩, .inr (.inr ⟨rfl, rfl⟩)⟩

theorem step_settled : ∀ s t : State, settled s → step s = .next t → settled t := by
  refine step_keeps (fun s p hs => hs) (fun s hs hheld => ?tick) (fun s power hpower _ hheld => ?held)
    (fun s power pins => latchAndStart_settled power pins s) (fun c s u hheld hs h _ => ?effect)
  case tick =>
    obtain ⟨hlink, hline⟩ := hs hheld
    exact ⟨hlink, lineSettled_of_frame hline (by simp) (by simp) (by simp) (by simp)⟩
  case held =>
    rcases hpower with h | h <;> simp [State.held, h] at hheld
  case effect =>
    obtain ⟨⟨hlen, -, hreply⟩, -⟩ := hs hheld
    exact settle_settled ((effectOf_effect h).slotsSound ⟨hlen, hreply⟩)

end Sys2Proof.Machine
end

section

open Sys2Proof.Machine

/-- Settles O60: the settling leaves nothing that could begin, whatever state it meets; that a reply being sent holds
a slot, and at most two are held, is kept by every effect. -/
theorem everyStepLeavesTheTransmittersSettled : Obligations.EveryStepLeavesTheTransmittersSettled :=
  step_settled

end

section
/-! PROOFS. The timer, the question record, the pass and the two answer collections follow the round state at every
step (R98, R114, R116, R135). -/

namespace Sys2Proof.Machine

open Sys2Proof.Safety

variable {s u : State} {f : RxEntry} {q : Question}

/-! ### The question test, read backwards (R102) -/

/-- What a frame that passes the question test has met: an open question, of the kind's type, in a state that fits. -/
theorem questionTest_passed (h : questionTest f s = .ok q) :
    openQuestionIs s q ∧ questionOf f = q.number ∧ (∀ t, kindType f.kind = some t → q.type = t)
      ∧ stateFits f.kind s.engine.state = true := by
  unfold questionTest at h
  split at h
  · next p hopen hp =>
    split at h
    · cases h
    · next hnumber =>
      split at h
      · cases h
      · next htype =>
        split at h
        · next hfits =>
          cases h
          exact ⟨⟨hopen, hp⟩, by simpa using hnumber, fun t ht => by simp_all, hfits⟩
        · cases h
  · split at h <;> cases h

/-! ### The condition and what it is read from -/

theorem roundAgrees_congr (h : roundAgrees s) (hstate : u.engine.state = s.engine.state)
    (hquestion : u.engine.question = s.engine.question) (hpass : u.engine.pass = s.engine.pass)
    (hcond : u.clock.timer.cond = s.clock.timer.cond) (hhalt : u.clock.timer.haltStamp = s.clock.timer.haltStamp)
    (hbuzz : u.buzz.queue = s.buzz.queue) (hpoll : u.poll.table = s.poll.table) : roundAgrees u := by
  unfold roundAgrees at h ⊢
  rw [hstate, hquestion, hpass, hcond, hhalt, hbuzz, hpoll]
  exact h

/-- The blocks that the condition speaks of stand. -/
theorem roundAgrees_of_frame (h : roundAgrees s) (hengine : u.engine = s.engine) (hclock : u.clock.timer = s.clock.timer)
    (hbuzz : u.buzz = s.buzz) (hpoll : u.poll = s.poll) : roundAgrees u :=
  roundAgrees_congr h (by rw [hengine]) (by rw [hengine]) (by rw [hengine]) (by rw [hclock]) (by rw [hclock])
    (by rw [hbuzz]) (by rw [hpoll])

/-- An open question of one type leaves the collection of that type free to change. -/
theorem roundAgrees_collect (h : roundAgrees s) (hopen : openQuestionIs s q) (hengine : u.engine = s.engine)
    (hclock : u.clock = s.clock) (hbuzz : q.type = .poll → u.buzz.queue = s.buzz.queue)
    (hpoll : q.type = .buzz → u.poll.table = s.poll.table) : roundAgrees u := by
  obtain ⟨hstate, hq⟩ := hopen
  unfold roundAgrees at h ⊢
  rw [hengine, hclock]
  cases hs : s.engine.state <;> simp_all [RoundState.isOpen]

/-- Where no question is open and no pass is in flight, nothing of a question stands. -/
theorem roundAgrees_closed (h : roundAgrees s) (hclosed : s.engine.state.isOpen = false)
    (hscoring : s.engine.state ≠ .scoring) : s.engine.question = none ∧ s.engine.pass = none := by
  unfold roundAgrees at h
  cases hs : s.engine.state <;> simp_all [RoundState.isOpen]

/-- CLOSED with nothing of a question left. -/
theorem roundAgrees_entered (hstate : u.engine.state = .closed) (hquestion : u.engine.question = none)
    (hpass : u.engine.pass = none) (hcond : u.clock.timer.cond = .clear) (hbuzz : u.buzz.queue = [])
    (hpoll : u.poll.table = []) : roundAgrees u := by
  simp [roundAgrees, hstate, hquestion, hpass, hcond, hbuzz, hpoll]

/-! ### The frames that the engine deals with -/

theorem hearFrame_roundAgrees (f : RxEntry) (h : roundAgrees s) : roundAgrees (hearFrame f s) :=
  roundAgrees_of_frame h (by simp) (by simp) (by simp) (by simp)

theorem endQuestion_roundAgrees (s : State) : roundAgrees (endQuestion s) := by
  apply roundAgrees_entered <;>
    simp [endQuestion, enterClosed_engine, dropQuestion_engine, dropQuestion_clock, dropQuestion_buzz,
      dropQuestion_poll, timerStart, pollStart]

theorem dealShow_roundAgrees (h : roundAgrees s) (hscoring : s.engine.state ≠ .scoring) :
    roundAgrees (dealShow f s) := by
  have hgone := fun hclosed => roundAgrees_closed h hclosed hscoring
  unfold dealShow
  cases hopen : s.engine.state.isOpen with
  | true => apply roundAgrees_entered <;> simp [dropQuestion_engine, emptyBuzz_buzz, emptyPoll_poll, timerStart, pollStart]
  | false =>
    obtain ⟨hq, hp⟩ := hgone hopen
    apply roundAgrees_entered <;> simp [hq, hp, emptyBuzz_buzz, emptyPoll_poll, timerStart, pollStart]

@[simp] theorem settleShow_pass (n : Nat) (s : State) : (settleShow n s).engine.pass = s.engine.pass := by
  simp only [settleShow]
  split <;> simp

@[simp] theorem timerBegin_cond (stamp : Stamp) (windowMs lead : Nat) (now : Stamp) :
    (Timer.begin stamp windowMs lead now).cond = .running := rfl

theorem openQuestion_roundAgrees (h : roundAgrees s) (hscoring : s.engine.state ≠ .scoring) :
    roundAgrees (openQuestion f s) := by
  have hpass : (openQuestion f s).engine.pass = none := by
    cases hopen : s.engine.state.isOpen with
    | true => simp [openQuestion, hopen, dropQuestion_engine]
    | false => simp [openQuestion, hopen, (roundAgrees_closed h hopen hscoring).2]
  have hstate : (openQuestion f s).engine.state = .opened := by simp [openQuestion]
  have hquestion : (openQuestion f s).engine.question = some (questionRecord f) := by simp [openQuestion]
  have htimer : (openQuestion f s).clock.timer.cond = .running := by simp [openQuestion]
  have hbuzz : (openQuestion f s).buzz.queue = [] := by simp [openQuestion, emptyBuzz_buzz]
  have hpoll : (openQuestion f s).poll.table = [] := by simp [openQuestion, emptyPoll_poll, pollStart]
  simp [roundAgrees, hpass, hstate, hquestion, htimer, hbuzz, hpoll]

theorem dealOpen_roundAgrees (h : roundAgrees s) (hscoring : s.engine.state ≠ .scoring) :
    roundAgrees (dealOpen f s) := by
  unfold dealOpen
  split
  · exact roundAgrees_congr h rfl rfl rfl rfl rfl rfl rfl
  · exact openQuestion_roundAgrees h hscoring

/-- A frame that names a question keeps the condition where its dealing does so for an open question. -/
theorem withQuestion_roundAgrees {deal : RxEntry → Question → State → State} (h : roundAgrees s)
    (hdeal : ∀ q, questionTest f s = .ok q → roundAgrees (deal f q s)) : roundAgrees (withQuestion deal f s) := by
  obtain ⟨why, hw⟩ | ⟨q, hq, hdealt⟩ := withQuestion_cases deal f s
  · rw [hw]
    exact roundAgrees_congr h rfl rfl rfl rfl rfl rfl rfl
  · rw [hdealt]
    exact hdeal q hq

theorem haltQuestion_roundAgrees (h : roundAgrees s) (hq : s.engine.question = some q)
    (hstate : s.engine.state = .opened) : roundAgrees (haltQuestion f q s) := by
  simp only [roundAgrees, hstate, hq] at h
  obtain ⟨hcond, hrest⟩ := h
  simpa [roundAgrees, haltQuestion, hq, Timer.halt, hcond] using hrest

theorem resumeQuestion_roundAgrees (h : roundAgrees s) (hq : s.engine.question = some q)
    (hstate : s.engine.state = .halted) : roundAgrees (resumeQuestion f q s) := by
  simp only [roundAgrees, hstate, hq] at h
  obtain ⟨hcond, hstamp, hrest⟩ := h
  obtain ⟨t, ht⟩ := Option.isSome_iff_exists.mp hstamp
  simpa [roundAgrees, resumeQuestion, hq, Timer.resume, Timer.catchUpTo, hcond, ht] using hrest

theorem dealVerdict_roundAgrees (h : roundAgrees s) (hopen : openQuestionIs s q) (htype : q.type = .buzz) :
    roundAgrees (dealVerdict f q s) := by
  have hrefused : ∀ why, roundAgrees (refuseFrame f why s) := fun _ => roundAgrees_congr h rfl rfl rfl rfl rfl rfl rfl
  unfold dealVerdict
  split
  · split
    · split
      · exact endQuestion_roundAgrees _
      · exact roundAgrees_collect h hopen (by simp) (by simp) (by simp [htype]) (by simp)
      · exact roundAgrees_collect h hopen (by simp) (by simp) (by simp [htype]) (by simp)
    · exact hrefused _
  · exact hrefused _

theorem dealBuzz_roundAgrees (h : roundAgrees s) (hopen : openQuestionIs s q) (htype : q.type = .buzz) :
    roundAgrees (dealBuzz f q s) := by
  have hrefused : ∀ why, roundAgrees (refuseFrame f why s) := fun _ => roundAgrees_congr h rfl rfl rfl rfl rfl rfl rfl
  simp only [dealBuzz]
  split
  · exact hrefused _
  · split
    · exact roundAgrees_collect h hopen (by simp) (by simp) (by simp [htype]) (by simp)
    · exact hrefused _

theorem dealAnswer_roundAgrees (h : roundAgrees s) (hopen : openQuestionIs s q) (htype : q.type = .poll) :
    roundAgrees (dealAnswer f q s) :=
  roundAgrees_collect h hopen (by simp) (by simp) (by simp) (by simp [htype])

/-- STOP leaves a timer that is not CLEAR stopped (R81). -/
theorem timerStop_cond (t : Timer) (stamp : Stamp) (h : t.cond ≠ .clear) : (t.stop stamp).cond = .stopped := by
  unfold Timer.stop
  cases hc : t.cond <;> simp_all

theorem beginPass_roundAgrees (set : ChoiceSet) (h : roundAgrees s) (hopen : openQuestionIs s q)
    (htype : q.type = .poll) : roundAgrees (beginPass f set s) := by
  obtain ⟨hstate, hq⟩ := hopen
  have hfacts : s.clock.timer.cond ≠ .clear ∧ s.buzz.queue = [] := by
    unfold roundAgrees at h
    cases hs : s.engine.state <;> simp_all [RoundState.isOpen]
  simp [roundAgrees, beginPass, hq, htype, hfacts.2, timerStop_cond _ _ hfacts.1]

theorem dealReveal_roundAgrees (h : roundAgrees s) (hopen : openQuestionIs s q) (htype : q.type = .poll) :
    roundAgrees (dealReveal f q s) := by
  simp only [dealReveal]
  split
  · exact endQuestion_roundAgrees s
  · exact beginPass_roundAgrees _ h hopen htype

theorem adoptShow_roundAgrees (h : roundAgrees s) : roundAgrees (adoptShow f s) := by
  have hclock : (adoptShow f s).clock = s.clock := by simp
  have hbuzz : (adoptShow f s).buzz = s.buzz := by simp
  have hpoll : (adoptShow f s).poll = s.poll := by simp
  have hengine : (adoptShow f s).engine = { s.engine with
      showNo := clampNumber (numAt f.body 0), lastNo := numAt f.body 1
      state := if s.engine.state = .standby then .closed else s.engine.state } := by
    simp only [adoptShow]
    split <;> simp
  unfold roundAgrees at h ⊢
  rw [hclock, hbuzz, hpoll, hengine]
  cases hs : s.engine.state <;> simp_all

theorem receiveTally_roundAgrees (st : Station) (h : roundAgrees s) : roundAgrees (receiveTally st s) :=
  roundAgrees_of_frame h (by simp) (by simp) (by simp) (by simp)

theorem dealTally_roundAgrees (h : roundAgrees s) : roundAgrees (dealTally f s) := by
  simp only [dealTally]
  split
  · exact roundAgrees_congr h rfl rfl rfl rfl rfl rfl rfl
  · apply receiveTally_roundAgrees
    have hknown : roundAgrees (if s.engine.showNo = 0 then adoptShow f s else s) := by
      split
      · exact adoptShow_roundAgrees h
      · exact h
    exact roundAgrees_of_frame hknown (by simp) (by simp) (by simp) (by simp)

theorem dealRoll_roundAgrees (h : roundAgrees s) : roundAgrees (dealRoll f s) := by
  unfold dealRoll
  split
  · exact roundAgrees_congr h rfl rfl rfl rfl rfl rfl rfl
  · exact roundAgrees_of_frame h (by simp) (by simp) (by simp) (by simp)

theorem dealOf_roundAgrees (h : roundAgrees s) (hscoring : s.engine.state ≠ .scoring) :
    roundAgrees (dealOf f.kind f s) := by
  cases hk : f.kind with
  | newShow => exact dealShow_roundAgrees h hscoring
  | openQ => exact dealOpen_roundAgrees h hscoring
  | closeQ => exact withQuestion_roundAgrees h fun q _ => endQuestion_roundAgrees s
  | halt =>
    refine withQuestion_roundAgrees h fun q hq => ?_
    obtain ⟨hopen, -, -, hfits⟩ := questionTest_passed hq
    exact haltQuestion_roundAgrees h hopen.2 (by simpa [hk, stateFits] using hfits)
  | resume =>
    refine withQuestion_roundAgrees h fun q hq => ?_
    obtain ⟨hopen, -, -, hfits⟩ := questionTest_passed hq
    exact resumeQuestion_roundAgrees h hopen.2 (by simpa [hk, stateFits] using hfits)
  | verdict =>
    refine withQuestion_roundAgrees h fun q hq => ?_
    obtain ⟨hopen, -, htype, -⟩ := questionTest_passed hq
    exact dealVerdict_roundAgrees h hopen (htype _ (by rw [hk]; rfl))
  | buzz =>
    refine withQuestion_roundAgrees h fun q hq => ?_
    obtain ⟨hopen, -, htype, -⟩ := questionTest_passed hq
    exact dealBuzz_roundAgrees h hopen (htype _ (by rw [hk]; rfl))
  | answer =>
    refine withQuestion_roundAgrees h fun q hq => ?_
    obtain ⟨hopen, -, htype, -⟩ := questionTest_passed hq
    exact dealAnswer_roundAgrees h hopen (htype _ (by rw [hk]; rfl))
  | reveal =>
    refine withQuestion_roundAgrees h fun q hq => ?_
    obtain ⟨hopen, -, htype, -⟩ := questionTest_passed hq
    exact dealReveal_roundAgrees h hopen (htype _ (by rw [hk]; rfl))
  | roll => exact dealRoll_roundAgrees h
  | hello => exact roundAgrees_of_frame h (by simp [dealOf]) (by simp [dealOf]) (by simp [dealOf]) (by simp [dealOf])
  | tally => exact dealTally_roundAgrees h

/-! ### Every step -/

/-- A turn finds no pass in flight: the front frame is the engine's next item only outside SCORING (R101, R114). -/
theorem turn_facts {rest : List RxEntry} (hqueue : s.store.queue = f :: rest) (hwork : nextWork s = some .frame) :
    f.claimed = false ∧ s.engine.pass = none ∧ s.engine.state ≠ .scoring := by
  have hturn : frontTurn { s with power := powerOn } f := ⟨rfl, by simp [hqueue], hwork⟩
  obtain ⟨-, -, hfacts⟩ := frontTurn_facts hturn
  exact hfacts

theorem turnOf_roundAgrees (h : roundAgrees s) (hscoring : s.engine.state ≠ .scoring) : roundAgrees (turnOf f s) := by
  have hdealt := dealOf_roundAgrees (f := f) (hearFrame_roundAgrees f h) (by simpa using hscoring)
  simp only [turnOf]
  split
  · exact hdealt
  · exact roundAgrees_of_frame hdealt rfl rfl rfl rfl

theorem expired_roundAgrees (h : roundAgrees s) (hstate : s.engine.state = .opened) : roundAgrees (expired s) := by
  unfold roundAgrees at h
  cases hq : s.engine.question <;> simp_all [roundAgrees, expired, Timer.expire]

theorem passCompleted_roundAgrees (q : Question) (set : ChoiceSet) (s : State) :
    roundAgrees (passCompleted q set s) := by
  apply roundAgrees_entered <;>
    simp [passCompleted, enterClosed_engine, dropQuestion_engine, dropQuestion_clock, dropQuestion_buzz,
      dropQuestion_poll, timerStart, pollStart]

theorem Effect.roundAgrees {c : Instr} (h : Effect c s u) (hs : roundAgrees s) : roundAgrees u := by
  cases h with
  | line h =>
    obtain ⟨hframe, -⟩ := h.lineOnly
    exact roundAgrees_of_frame hs (by simp_all [changesOnly]) (by simp_all [changesOnly]) (by simp_all [changesOnly])
      (by simp_all [changesOnly])
  | panel h =>
    obtain ⟨hframe, htimer⟩ := h
    exact roundAgrees_of_frame hs (by simp_all [changesOnly]) htimer (by simp_all [changesOnly])
      (by simp_all [changesOnly])
  | timer h =>
    obtain ⟨hframe, -, warned, due, htimer⟩ := h
    exact roundAgrees_congr hs (by simp_all [changesOnly]) (by simp_all [changesOnly]) (by simp_all [changesOnly])
      (by rw [htimer]) (by rw [htimer]) (by simp_all [changesOnly]) (by simp_all [changesOnly])
  | press seat p =>
    unfold pressOf
    exact roundAgrees_of_frame hs (by simp) (by simp) (by simp) (by simp)
  | expiry _ hstate => exact expired_roundAgrees hs hstate
  | turn f rest hqueue hwork => exact turnOf_roundAgrees hs (turn_facts hqueue hwork).2.2
  | pass q set _ _ _ => exact passCompleted_roundAgrees q set s
  | deadline => exact roundAgrees_of_frame hs (by simp) (by simp) (by simp) (by simp)
  | watch => exact roundAgrees_of_frame hs (by simp) (by simp) (by simp) (by simp)
  | link h =>
    have hframe := h.linkOnly
    exact roundAgrees_of_frame hs (by simp_all [linkOnly, changesOnly]) (by simp_all [linkOnly, changesOnly])
      (by simp_all [linkOnly, changesOnly]) (by simp_all [linkOnly, changesOnly])

theorem step_roundAgrees : ∀ s t : State, roundAgrees s → step s = .next t → roundAgrees t :=
  step_keeps (fun _ _ h => h) (fun _ h => roundAgrees_of_frame h rfl rfl rfl rfl)
    (fun _ _ _ h => roundAgrees_of_frame h rfl rfl rfl rfl) (fun _ _ _ => ⟨rfl, rfl, rfl, rfl, rfl⟩)
    fun _ _ _ _ h he => roundAgrees_of_frame ((effectOf_effect he).roundAgrees h) (by simp) (by simp) (by simp) (by simp)

end Sys2Proof.Machine
end

section

open Sys2Proof.Machine

/-- Settles O57: each frame's dealing, the expiry and the end of a pass lead from one row of the table to another, and
no other effect moves a part that the table names. -/
theorem everyStepKeepsTheRoundInAgreement : Obligations.EveryStepKeepsTheRoundInAgreement :=
  step_roundAgrees

end

section
/-! PROOFS. The buzz queue stays sound at every step (R116, R117). -/

namespace Sys2Proof.Machine

open Sys2Proof.Safety

variable {s u : State} {f : RxEntry} {q : Question}

/-- A condition holds of a frame that names a question where it holds of the refusal and of the dealing. -/
theorem withQuestion_keeps {P : State → Prop} {deal : RxEntry → Question → State → State}
    (refused : ∀ why, P (refuseFrame f why s)) (dealt : ∀ q, questionTest f s = .ok q → P (deal f q s)) :
    P (withQuestion deal f s) := by
  obtain ⟨why, hw⟩ | ⟨q, hq, hdealt⟩ := withQuestion_cases deal f s
  · rw [hw]; exact refused why
  · rw [hdealt]; exact dealt q hq

/-- A fold keeps a condition that each of its steps keeps. -/
theorem foldl_holds {α β : Type} {P : α → Prop} {g : α → β → α} (hg : ∀ a b, P a → P (g a b)) (l : List β) :
    ∀ a, P a → P (l.foldl g a) := by
  induction l with
  | nil => exact fun _ h => h
  | cons b l ih => exact fun a h => ih _ (hg a b h)

/-! ### Insertion by key (R116) -/

theorem insertBuzz_perm (b : BuzzEntry) (l : List BuzzEntry) : (insertBuzz b l).Perm (b :: l) := by
  induction l with
  | nil => exact .refl _
  | cons h t ih =>
    unfold insertBuzz
    split
    · exact .refl _
    · exact (ih.cons h).trans (.swap b h t)

theorem mem_insertBuzz {b x : BuzzEntry} {l : List BuzzEntry} : x ∈ insertBuzz b l ↔ x = b ∨ x ∈ l := by
  rw [(insertBuzz_perm b l).mem_iff, List.mem_cons]

theorem length_insertBuzz (b : BuzzEntry) (l : List BuzzEntry) : (insertBuzz b l).length = l.length + 1 :=
  (insertBuzz_perm b l).length_eq

/-- A key that stands nowhere in a strictly ascending queue is inserted in its place. -/
theorem insertBuzz_ascending {b : BuzzEntry} {l : List BuzzEntry} (hl : l.Pairwise fun a b => a.key < b.key)
    (hnew : ∀ x ∈ l, x.key ≠ b.key) : (insertBuzz b l).Pairwise fun a b => a.key < b.key := by
  induction l with
  | nil => simp [insertBuzz]
  | cons h t ih =>
    obtain ⟨hfirst, hrest⟩ := List.pairwise_cons.mp hl
    unfold insertBuzz
    split
    · next hlt =>
      refine List.pairwise_cons.mpr ⟨fun x hx => ?_, hl⟩
      rcases List.mem_cons.mp hx with rfl | hx
      · exact hlt
      · exact BitVec.lt_trans hlt (hfirst x hx)
    · next hge =>
      refine List.pairwise_cons.mpr ⟨fun x hx => ?_, ih hrest fun x hx => hnew x (List.mem_cons_of_mem h hx)⟩
      rcases mem_insertBuzz.mp hx with rfl | hx
      · exact BitVec.lt_of_le_ne (BitVec.not_lt.mp hge) (hnew h List.mem_cons_self)
      · exact hfirst x hx

/-! ### What keeps the queue sound -/

theorem buzzSound_congr (hs : buzzSound s) (h : u.buzz = s.buzz) : buzzSound u := by
  simpa [buzzSound, lockedOut, h] using hs

theorem buzzSound_empty (h : s.buzz.queue = []) : buzzSound s := by
  simp [buzzSound, h]

/-- Entries that leave the queue leave it sound, where none of those that stay is locked out. -/
theorem buzzSound_sublist (hs : buzzSound s) (hsub : u.buzz.queue.Sublist s.buzz.queue)
    (hlocked : ∀ b ∈ u.buzz.queue, lockedOut u b.station b.seat (some b.team) = false) : buzzSound u := by
  obtain ⟨hlen, hkeys, hseats, hfields, -⟩ := hs
  exact ⟨hsub.length_le.trans hlen, hkeys.sublist hsub, hseats.sublist hsub, fun b hb => hfields b (hsub.subset hb),
    hlocked⟩

/-- A BUZZ that R120 does not refuse is of a seat without an entry, and not locked out. -/
theorem buzzRefusal_none {b : BuzzEntry} (h : buzzRefusal b q s = none) :
    b.e < q.windowMs ∧ queuedSeat s b.station b.seat = false
      ∧ lockedOut s b.station b.seat (some b.team) = false := by
  unfold buzzRefusal at h
  split at h
  · cases h
  · next htime =>
    split at h
    · cases h
    · next hqueued =>
      split at h
      · cases h
      · next hlocked => exact ⟨Nat.lt_of_not_le htime, by simpa using hqueued, by simpa using hlocked⟩

theorem queuedSeat_false {st : Station} {seat : Seat} (h : queuedSeat s st seat = false) :
    ∀ x ∈ s.buzz.queue, ¬(x.station = st ∧ x.seat = seat) := by
  intro x hx
  simpa using List.any_eq_false.mp h x hx

/-- The entry of a BUZZ that is not refused joins a sound queue, from which entries may have left for it. -/
theorem insertBuzz_sound {l : List BuzzEntry} (hs : buzzSound s) (hrefusal : buzzRefusal (buzzEntry f) q s = none)
    (hsub : l.Sublist s.buzz.queue) (hroom : l.length < 16) (hqueue : u.buzz.queue = insertBuzz (buzzEntry f) l)
    (hlockouts : u.buzz.lockouts = s.buzz.lockouts) : buzzSound u := by
  obtain ⟨-, hqueued, hlocked⟩ := buzzRefusal_none hrefusal
  obtain ⟨-, hkeys, hseats, hfields, hfree⟩ := hs
  have hother := queuedSeat_false hqueued
  have hsame : ∀ st seat team, lockedOut u st seat team = lockedOut s st seat team := by
    simp [lockedOut, hlockouts]
  unfold buzzSound
  rw [hqueue]
  refine ⟨?len, insertBuzz_ascending (hkeys.sublist hsub) fun x hx => ?newKey, ?seats, fun x hx => ?fields,
    fun x hx => ?locked⟩
  case len => rw [length_insertBuzz]; omega
  case newKey =>
    intro hkey
    obtain ⟨hst, hseat, -⟩ := hfields x (hsub.subset hx)
    exact hother x (hsub.subset hx) ⟨by rw [hst, hkey]; rfl, by rw [hseat, hkey]; rfl⟩
  case seats =>
    have hsymm : ∀ {a b : BuzzEntry}, ¬(a.station = b.station ∧ a.seat = b.seat) →
        ¬(b.station = a.station ∧ b.seat = a.seat) := fun hab hba => hab ⟨hba.1.symm, hba.2.symm⟩
    refine ((insertBuzz_perm _ l).pairwise_iff hsymm).mpr (List.pairwise_cons.mpr ⟨fun x hx => ?_, hseats.sublist hsub⟩)
    exact hsymm (hother x (hsub.subset hx))
  case fields =>
    rcases mem_insertBuzz.mp hx with rfl | hx
    · exact ⟨rfl, rfl, rfl⟩
    · exact hfields x (hsub.subset hx)
  case locked =>
    rw [hsame]
    rcases mem_insertBuzz.mp hx with rfl | hx
    · exact hlocked
    · exact hfree x (hsub.subset hx)

/-- The place that a BUZZ finds: in a queue with room, or in a full one that its last entry leaves (R121, R122). -/
theorem buzzPlace_some {b : BuzzEntry} {l : List BuzzEntry} (h : buzzPlace b s = some l) :
    (s.buzz.queue.length < 16 ∧ l = insertBuzz b s.buzz.queue)
      ∨ (16 ≤ s.buzz.queue.length ∧ l = insertBuzz b s.buzz.queue.dropLast
          ∧ ∃ last, s.buzz.queue.getLast? = some last ∧ b.key < last.key) := by
  unfold buzzPlace at h
  split at h
  · next hroom => exact .inl ⟨hroom, by simpa using h.symm⟩
  · next hfull =>
    split at h
    · next last hlast =>
      split at h
      · next hkey => exact .inr ⟨Nat.le_of_not_lt hfull, by simpa using h.symm, last, hlast, hkey⟩
      · cases h
    · cases h

theorem dealBuzz_buzzSound (hs : buzzSound s) : buzzSound (dealBuzz f q s) := by
  simp only [dealBuzz]
  split
  · exact hs
  · next hrefusal =>
    split
    · next l hplace =>
      rcases buzzPlace_some hplace with ⟨hroom, rfl⟩ | ⟨hfull, rfl, -⟩
      · exact insertBuzz_sound hs hrefusal (.refl _) hroom (by simp) (by simp)
      · have hlen := hs.1
        exact insertBuzz_sound hs hrefusal (List.dropLast_sublist _) (by simp; omega) (by simp) (by simp)
    · exact hs

/-! ### Verdicts (R125 to R128) -/

theorem mem_addLockout {unit x : LockUnit} :
    x ∈ (addLockout unit s).buzz.lockouts ↔ x = unit ∨ x ∈ s.buzz.lockouts := by
  simp only [addLockout]
  split
  · next hmem => exact ⟨.inr, fun h => h.elim (fun hx => hx ▸ hmem) id⟩
  · simp [or_comm]

/-- After a unit has joined the set, a seat is locked out where it was before or belongs to the unit. -/
theorem lockedOut_addLockout (unit : LockUnit) (s : State) (st : Station) (seat : Seat) (team : Option Team) :
    lockedOut (addLockout unit s) st seat team = (belongs st seat team unit || lockedOut s st seat team) := by
  rw [Bool.eq_iff_iff]
  simp only [lockedOut, List.any_eq_true, mem_addLockout, Bool.or_eq_true, exists_eq_or_imp]

theorem verdictWrong_buzz (b : BuzzEntry) : (verdictWrong q b s).buzz = {
    queue := s.buzz.queue.filter fun x => !belongs x.station x.seat (some x.team) (unitOf q.scope b)
    lockouts := (addLockout (unitOf q.scope b) s).buzz.lockouts } := by
  simp [verdictWrong]

theorem verdictVoid_buzz (b : BuzzEntry) : (verdictVoid b s).buzz = { s.buzz with queue := s.buzz.queue.tail } := by
  simp only [verdictVoid]
  split <;> simp

theorem endQuestion_buzz : (endQuestion s).buzz = { s.buzz with queue := [] } := by
  simp [endQuestion, dropQuestion_buzz]

theorem verdictWrong_buzzSound (b : BuzzEntry) (hs : buzzSound s) : buzzSound (verdictWrong q b s) := by
  obtain ⟨-, -, -, -, hfree⟩ := id hs
  refine buzzSound_sublist hs (by simp [verdictWrong_buzz]) fun x hx => ?_
  rw [verdictWrong_buzz, List.mem_filter] at hx
  have hlocked : lockedOut (verdictWrong q b s) x.station x.seat (some x.team)
      = lockedOut (addLockout (unitOf q.scope b) s) x.station x.seat (some x.team) := by
    simp [lockedOut, verdictWrong_buzz]
  rw [hlocked, lockedOut_addLockout, hfree x hx.1, Bool.or_false]
  simpa using hx.2

theorem verdictVoid_buzzSound (b : BuzzEntry) (hs : buzzSound s) : buzzSound (verdictVoid b s) := by
  obtain ⟨-, -, -, -, hfree⟩ := id hs
  refine buzzSound_sublist hs (by simp [verdictVoid_buzz, List.tail_sublist]) fun x hx => ?_
  rw [verdictVoid_buzz] at hx
  simpa [lockedOut, verdictVoid_buzz] using hfree x (List.mem_of_mem_tail hx)

theorem dealVerdict_buzzSound (hs : buzzSound s) : buzzSound (dealVerdict f q s) := by
  unfold dealVerdict
  split
  · split
    · split
      · exact buzzSound_empty (by simp [verdictCorrect, endQuestion_buzz])
      · exact verdictWrong_buzzSound _ hs
      · exact verdictVoid_buzzSound _ hs
    · exact hs
  · exact hs

/-! ### Every step -/

theorem dealOf_buzzSound (k : Kind) (hs : buzzSound s) : buzzSound (dealOf k f s) := by
  cases k with
  | newShow => exact buzzSound_empty (by simp [dealOf, dealShow, emptyBuzz_buzz])
  | openQ =>
    simp only [dealOf, dealOpen]
    split
    · exact hs
    · exact buzzSound_empty (by simp [openQuestion, emptyBuzz_buzz])
  | closeQ => exact withQuestion_keeps (fun _ => hs) fun _ _ => buzzSound_empty (by simp [endQuestion_buzz])
  | halt => exact withQuestion_keeps (deal := haltQuestion) (fun _ => hs) fun _ _ => hs
  | resume => exact withQuestion_keeps (deal := resumeQuestion) (fun _ => hs) fun _ _ => hs
  | verdict => exact withQuestion_keeps (fun _ => hs) fun _ _ => dealVerdict_buzzSound hs
  | buzz => exact withQuestion_keeps (fun _ => hs) fun _ _ => dealBuzz_buzzSound hs
  | answer => exact withQuestion_keeps (fun _ => hs) fun _ _ => buzzSound_congr hs (by simp)
  | reveal =>
    refine withQuestion_keeps (fun _ => hs) fun q _ => ?_
    simp only [dealReveal]
    split
    · exact buzzSound_empty (by simp [endQuestion_buzz])
    · exact buzzSound_congr hs (by simp)
  | roll | hello | tally => exact buzzSound_congr hs (by simp [dealOf])

theorem turnOf_keeps {P : State → Prop} (hear : P (hearFrame f s)) (deal : ∀ k t, P t → P (dealOf k f t))
    (release : ∀ t, P t → P (releaseFront t)) : P (turnOf f s) := by
  simp only [turnOf]
  split
  · exact deal _ _ hear
  · exact release _ (deal _ _ hear)

theorem Effect.buzzSound {c : Instr} (h : Effect c s u) (hs : buzzSound s) : buzzSound u := by
  cases h with
  | line h =>
    have hframe := h.lineOnly
    exact buzzSound_congr hs (by simp_all [lineOnly, changesOnly])
  | panel h => exact buzzSound_congr hs (by simp_all [panelOnly, changesOnly])
  | timer h => exact buzzSound_congr hs (by simp_all [timerOnly, changesOnly])
  | press seat p => exact buzzSound_congr hs (by simp [pressOf])
  | expiry _ _ => exact hs
  | turn f _ _ _ =>
    exact turnOf_keeps (buzzSound_congr hs (by simp)) (fun k t ht => dealOf_buzzSound k ht) fun t ht => ht
  | pass q set _ _ _ => exact buzzSound_empty (by simp [passCompleted, dropQuestion_buzz])
  | deadline => exact buzzSound_congr hs (by simp)
  | watch => exact buzzSound_congr hs (by simp)
  | link h =>
    have hframe := h.linkOnly
    exact buzzSound_congr hs (by simp_all [linkOnly, changesOnly])

theorem step_buzzSound : ∀ s t : State, buzzSound s → step s = .next t → buzzSound t :=
  step_keeps (fun _ _ h => h) (fun _ h => h) (fun _ _ _ h => h) (fun _ _ _ => buzzSound_empty rfl)
    fun _ _ _ _ h he => buzzSound_congr ((effectOf_effect he).buzzSound h) (by simp)

end Sys2Proof.Machine
end

section
/-! PROOFS. The choice tally counts the poll table at every step (R135, R136). -/

namespace Sys2Proof.Machine

open Sys2Proof.Safety

variable {s u : State} {f : RxEntry} {q : Question}

/-! ### The poll table in order (R135) -/

theorem insertPoll_perm (r : PollRecord) (l : List PollRecord) : (insertPoll r l).Perm (r :: l) := by
  induction l with
  | nil => exact .refl _
  | cons h t ih =>
    unfold insertPoll
    split
    · exact .refl _
    · exact (ih.cons h).trans (.swap r h t)

theorem mem_insertPoll {r x : PollRecord} {l : List PollRecord} : x ∈ insertPoll r l ↔ x = r ∨ x ∈ l := by
  rw [(insertPoll_perm r l).mem_iff, List.mem_cons]

/-- The order of station and then seat is that of their one number. -/
theorem seatOrder_iff (st st' : Station) (seat seat' : Seat) :
    (st < st' ∨ (st = st' ∧ seat < seat')) ↔ st.val * 8 + seat.val < st'.val * 8 + seat'.val := by
  rw [Fin.lt_def, Fin.lt_def, Fin.ext_iff]
  omega

theorem seatSame_iff (st st' : Station) (seat seat' : Seat) :
    (st = st' ∧ seat = seat') ↔ st.val * 8 + seat.val = st'.val * 8 + seat'.val := by
  rw [Fin.ext_iff, Fin.ext_iff]
  omega

theorem insertPoll_ordered {r : PollRecord} {l : List PollRecord} (hl : pollOrdered l)
    (hnew : ∀ x ∈ l, ¬(x.station = r.station ∧ x.seat = r.seat)) : pollOrdered (insertPoll r l) := by
  simp only [pollOrdered, seatOrder_iff, seatSame_iff] at hl hnew ⊢
  induction l with
  | nil => simp [insertPoll]
  | cons h t ih =>
    obtain ⟨hfirst, hrest⟩ := List.pairwise_cons.mp hl
    unfold insertPoll
    simp only [seatOrder_iff]
    split
    · next hlt =>
      refine List.pairwise_cons.mpr ⟨fun x hx => ?_, hl⟩
      rcases List.mem_cons.mp hx with rfl | hx
      · exact hlt
      · have := hfirst x hx
        omega
    · next hge =>
      refine List.pairwise_cons.mpr ⟨fun x hx => ?_, ih hrest fun x hx => hnew x (List.mem_cons_of_mem h hx)⟩
      rcases mem_insertPoll.mp hx with rfl | hx
      · have := hnew h List.mem_cons_self
        omega
      · exact hfirst x hx

/-- In an ordered table the record found for a seat is the only one of that seat. -/
theorem pollOf_split {st : Station} {seat : Seat} {old : PollRecord} (hordered : pollOrdered s.poll.table)
    (h : pollOf s st seat = some old) :
    old.station = st ∧ old.seat = seat ∧ ∃ front back, s.poll.table = front ++ old :: back
      ∧ (∀ x ∈ front, ¬(x.station = st ∧ x.seat = seat)) ∧ ∀ x ∈ back, ¬(x.station = st ∧ x.seat = seat) := by
  obtain ⟨hold, front, back, htable, hfront⟩ := List.find?_eq_some_iff_append.mp h
  simp only [Bool.and_eq_true, decide_eq_true_eq] at hold
  obtain ⟨rfl, rfl⟩ := hold
  refine ⟨rfl, rfl, front, back, htable, fun x hx hsame => absurd (hfront x hx) (by simp [hsame]),
    fun x hx => ?_⟩
  rw [htable] at hordered
  have hafter := (List.pairwise_cons.mp (List.pairwise_append.mp hordered).2.1).1 x hx
  rw [seatOrder_iff] at hafter
  rw [seatSame_iff]
  omega

theorem pollOf_none {st : Station} {seat : Seat} (h : pollOf s st seat = none) :
    ∀ x ∈ s.poll.table, ¬(x.station = st ∧ x.seat = seat) := by
  intro x hx
  simpa using List.find?_eq_none.mp h x hx

/-! ### The counts (R136) -/

theorem countChoice_get (c : Choice) (up : Bool) (v : Vector Nat 4) (d : Choice) :
    (countChoice c up v)[d] = if d = c then (if up then v[d] + 1 else v[d] - 1) else v[d] := by
  simp only [countChoice, putAt, Fin.getElem_fin, Vector.getElem_set, Fin.ext_iff]
  by_cases h : c.val = d.val
  · simp [h]
  · simp [h, Ne.symm h]

/-- A record's choice and e replaced in its place: the table changes at that place alone. -/
theorem replace_split {new old : PollRecord} {front back : List PollRecord} (hst : old.station = new.station)
    (hseat : old.seat = new.seat) (hfront : ∀ x ∈ front, ¬(x.station = new.station ∧ x.seat = new.seat))
    (hback : ∀ x ∈ back, ¬(x.station = new.station ∧ x.seat = new.seat)) :
    (front ++ old :: back).map (fun r => if r.station = new.station ∧ r.seat = new.seat then new else r)
      = front ++ new :: back := by
  have hkeep : ∀ l : List PollRecord, (∀ x ∈ l, ¬(x.station = new.station ∧ x.seat = new.seat)) →
      l.map (fun r => if r.station = new.station ∧ r.seat = new.seat then new else r) = l := by
    intro l hl
    exact (List.map_congr_left fun x hx => if_neg (hl x hx)).trans (List.map_id' l)
  simp [hkeep front hfront, hkeep back hback, hst, hseat]

theorem tallyAgrees_congr (hs : tallyAgrees s) (h : u.poll = s.poll) : tallyAgrees u := by
  simpa [tallyAgrees, h] using hs

theorem tallyAgrees_start (h : u.poll = pollStart) : tallyAgrees u := by
  simp [tallyAgrees, h, pollStart]

theorem createPoll_tallyAgrees {r : PollRecord} (hs : tallyAgrees s) (hnew : pollOf s r.station r.seat = none) :
    tallyAgrees (createPoll r s) := by
  obtain ⟨hordered, hcounts⟩ := hs
  have hpoll : (createPoll r s).poll
      = { table := insertPoll r s.poll.table, tally := countChoice r.choice true s.poll.tally } := by simp [createPoll]
  refine ⟨by rw [hpoll]; exact insertPoll_ordered hordered (pollOf_none hnew), fun c => ?_⟩
  simp only [hpoll, countChoice_get, hcounts c, (insertPoll_perm r s.poll.table).countP_eq, List.countP_cons,
    decide_eq_true_eq, if_true]
  by_cases hc : r.choice = c
  · simp [hc]
  · simp [hc, Ne.symm hc]

theorem replacePoll_tallyAgrees {old new : PollRecord} (hs : tallyAgrees s)
    (hold : pollOf s new.station new.seat = some old) : tallyAgrees (replacePoll old new s) := by
  obtain ⟨hordered, hcounts⟩ := hs
  obtain ⟨hst, hseat, front, back, htable, hfront, hback⟩ := pollOf_split hordered hold
  have hpoll : (replacePoll old new s).poll.table = front ++ new :: back := by
    simp only [replacePoll, htable]
    exact replace_split hst hseat hfront hback
  refine ⟨?_, fun c => ?_⟩
  · rw [hpoll]
    rw [htable] at hordered
    simpa [List.pairwise_append, hst, hseat] using hordered
  · rw [hpoll]
    have hcount := hcounts c
    rw [htable] at hcount
    simp only [List.countP_append, List.countP_cons, decide_eq_true_eq] at hcount ⊢
    by_cases hsame : old.choice = new.choice
    · simp [replacePoll, hsame] at hcount ⊢
      exact hcount
    · simp only [replacePoll, hsame, if_false, countChoice_get, if_true, Bool.false_eq_true]
      by_cases hold : c = old.choice
      · subst hold
        simp [hsame, Ne.symm hsame, hcount]
      · by_cases hnew : c = new.choice
        · subst hnew
          simp [hsame, hold, hcount]
          omega
        · simp [hold, hnew, Ne.symm hold, Ne.symm hnew, hcount]

theorem judgeAnswer_tallyAgrees (st : Station) (a : AnswerEntry) (hs : tallyAgrees s) :
    tallyAgrees (judgeAnswer st q s a) := by
  simp only [judgeAnswer]
  split
  · exact hs
  · split
    · next hnone => exact createPoll_tallyAgrees hs hnone
    · next old hold =>
      split
      · exact replacePoll_tallyAgrees hs hold
      · exact hs

theorem dealAnswer_tallyAgrees (hs : tallyAgrees s) : tallyAgrees (dealAnswer f q s) :=
  tallyAgrees_congr
    (foldl_holds (fun _ a h => judgeAnswer_tallyAgrees (q := q) (keyStation f.key) a h)
      (answerEntries (f.body.drop 2)) s hs)
    (by simp [dealAnswer])

/-! ### Every step -/

theorem endQuestion_poll : (endQuestion s).poll = pollStart := by
  simp [endQuestion, dropQuestion_poll]

theorem dealOf_tallyAgrees (k : Kind) (hs : tallyAgrees s) : tallyAgrees (dealOf k f s) := by
  cases k with
  | newShow => exact tallyAgrees_start (by simp [dealOf, dealShow, emptyPoll_poll])
  | openQ =>
    simp only [dealOf, dealOpen]
    split
    · exact hs
    · exact tallyAgrees_start (by simp [openQuestion, emptyPoll_poll])
  | closeQ => exact withQuestion_keeps (fun _ => hs) fun _ _ => tallyAgrees_start endQuestion_poll
  | halt => exact withQuestion_keeps (deal := haltQuestion) (fun _ => hs) fun _ _ => hs
  | resume => exact withQuestion_keeps (deal := resumeQuestion) (fun _ => hs) fun _ _ => hs
  | verdict =>
    refine withQuestion_keeps (fun _ => hs) fun q _ => ?_
    simp only [dealVerdict]
    split
    · split
      · split
        · exact tallyAgrees_start (by simp [verdictCorrect, endQuestion_poll])
        · exact tallyAgrees_congr hs (by simp)
        · exact tallyAgrees_congr hs (by simp)
      · exact hs
    · exact hs
  | buzz => exact withQuestion_keeps (fun _ => hs) fun _ _ => tallyAgrees_congr hs (by simp)
  | answer => exact withQuestion_keeps (fun _ => hs) fun _ _ => dealAnswer_tallyAgrees hs
  | reveal =>
    refine withQuestion_keeps (fun _ => hs) fun q _ => ?_
    simp only [dealReveal]
    split
    · exact tallyAgrees_start endQuestion_poll
    · exact tallyAgrees_congr hs (by simp)
  | roll | hello | tally => exact tallyAgrees_congr hs (by simp [dealOf])

theorem Effect.tallyAgrees {c : Instr} (h : Effect c s u) (hs : tallyAgrees s) : tallyAgrees u := by
  cases h with
  | line h =>
    have hframe := h.lineOnly
    exact tallyAgrees_congr hs (by simp_all [lineOnly, changesOnly])
  | panel h => exact tallyAgrees_congr hs (by simp_all [panelOnly, changesOnly])
  | timer h => exact tallyAgrees_congr hs (by simp_all [timerOnly, changesOnly])
  | press seat p => exact tallyAgrees_congr hs (by simp [pressOf])
  | expiry _ _ => exact hs
  | turn f _ _ _ =>
    exact turnOf_keeps (tallyAgrees_congr hs (by simp)) (fun k t ht => dealOf_tallyAgrees k ht) fun t ht => ht
  | pass q set _ _ _ => exact tallyAgrees_start (by simp [passCompleted, dropQuestion_poll])
  | deadline => exact tallyAgrees_congr hs (by simp)
  | watch => exact tallyAgrees_congr hs (by simp)
  | link h =>
    have hframe := h.linkOnly
    exact tallyAgrees_congr hs (by simp_all [linkOnly, changesOnly])

theorem step_tallyAgrees : ∀ s t : State, tallyAgrees s → step s = .next t → tallyAgrees t :=
  step_keeps (fun _ _ h => h) (fun _ h => h) (fun _ _ _ h => h) (fun _ _ _ => tallyAgrees_start rfl)
    fun _ _ _ _ h he => tallyAgrees_congr ((effectOf_effect he).tallyAgrees h) (by simp)

end Sys2Proof.Machine
end

section
/-! PROOFS. The question and the seat records stay in their ranges at every step (R99, R151). -/

namespace Sys2Proof.Machine

open Sys2Proof.Safety

variable {s u : State} {f : RxEntry} {q : Question}

/-! ### One record (R151, R156 to R163) -/

theorem newRecord_inRange (st : Station) (seat : Seat) : recordInRange (newRecord st seat) := by
  simp [recordInRange, newRecord]

theorem clampTotal_inRange (t : Int) : -9999 ≤ clampTotal t ∧ clampTotal t ≤ 29999 := by
  simp only [clampTotal, Config.totalFloor, Config.totalTop]
  omega

theorem awardRecord_inRange (e : Nat) {r : SeatRecord} (hq : questionInRange q) : recordInRange (awardRecord q e r) := by
  obtain ⟨-, -, hbase, -, -, hstake, hwindow, -⟩ := hq
  have haward := awardOf_le (windowMs := q.windowMs) e r.streak hbase (by omega) hstake
  obtain ⟨hlow, hhigh⟩ := clampTotal_inRange (r.total + (awardOf q.base q.windowMs e r.streak q.stake : Int))
  simp only [recordInRange, awardRecord, applyChange, raisedStreak, Config.streakTop]
  omega

theorem penaliseRecord_inRange {r : SeatRecord} (hq : questionInRange q) : recordInRange (penaliseRecord q r) := by
  obtain ⟨-, -, -, hpenalty, -, hstake, -⟩ := hq
  have hcost := penaltyOf_le hpenalty hstake
  obtain ⟨hlow, hhigh⟩ := clampTotal_inRange (r.total + (-(penaltyOf q.penalty q.stake : Int)))
  simp only [recordInRange, penaliseRecord, applyChange]
  omega

theorem passRecord_inRange (set : ChoiceSet) (t : State) {r : SeatRecord} (hq : questionInRange q)
    (hr : recordInRange r) : recordInRange (passRecord q set t r) := by
  obtain ⟨hlow, hhigh, -⟩ := id hr
  unfold passRecord
  split
  · split
    · exact awardRecord_inRange _ hq
    · exact ⟨hlow, hhigh, by simp⟩
  · split
    · exact ⟨hlow, hhigh, by simp⟩
    · exact hr

/-- A streak of a TALLY is a half byte (R34). -/
theorem tallyStreak_le (body : List Byte) (count i : Nat) : tallyStreak body count i ≤ 15 := by
  have hbyte : numAt body (4 + 2 * count + i / 2) < 256 := (byteAt body (4 + 2 * count + i / 2)).isLt
  simp only [tallyStreak]
  split <;> omega

theorem tallyRecord_inRange (body : List Byte) (count : Nat) (seat : Seat) {r : SeatRecord} (hr : recordInRange r) :
    recordInRange { r with total := tallyTotal body seat.val, streak := tallyStreak body count seat.val } := by
  obtain ⟨-, -, -, haward⟩ := hr
  obtain ⟨hlow, hhigh⟩ := clampTotal_inRange
    (byteAt body (4 + 2 * seat.val) ++ byteAt body (5 + 2 * seat.val)).toInt
  exact ⟨hlow, hhigh, tallyStreak_le body count seat.val, haward⟩

/-! ### The question record (R99) -/

theorem questionRecord_inRange (f : RxEntry) : questionInRange (questionRecord f) := by
  have hbyte : numAt f.body 1 < 256 := (byteAt f.body 1).isLt
  simp only [questionInRange, questionRecord, clampNumber, clampPoints, clampStake, clampWindow, clampLead,
    clampChoices]
  split <;> omega

/-! ### The table of seat records -/

/-- Every seat record lies in its ranges (R151). -/
def recordsInRange (s : State) : Prop := ∀ r ∈ s.score.records, recordInRange r

theorem recordsInRange_congr (hs : recordsInRange s) (h : u.score.records = s.score.records) : recordsInRange u := by
  simpa [recordsInRange, h] using hs

theorem insertRecord_perm (r : SeatRecord) (l : List SeatRecord) : (insertRecord r l).Perm (r :: l) := by
  induction l with
  | nil => exact .refl _
  | cons h t ih =>
    unfold insertRecord
    split
    · exact .refl _
    · exact (ih.cons h).trans (.swap r h t)

theorem mem_insertRecord {r x : SeatRecord} {l : List SeatRecord} : x ∈ insertRecord r l ↔ x = r ∨ x ∈ l := by
  rw [(insertRecord_perm r l).mem_iff, List.mem_cons]

theorem ensureRecord_records (st : Station) (seat : Seat) : (ensureRecord st seat s).score.records
    = if (recordOf s st seat).isSome then s.score.records
      else insertRecord (newRecord st seat) s.score.records := by
  unfold ensureRecord
  split <;> simp [*]

theorem ensureRecord_inRange (st : Station) (seat : Seat) (hs : recordsInRange s) :
    recordsInRange (ensureRecord st seat s) := by
  unfold recordsInRange
  rw [ensureRecord_records]
  split
  · exact hs
  · intro r hr
    rcases mem_insertRecord.mp hr with rfl | hr
    · exact newRecord_inRange st seat
    · exact hs r hr

theorem recompute_records : (recompute s).score.records = s.score.records := by
  rw [recompute_score]

theorem giveSeat_records (st : Station) (seat : Seat) :
    (giveSeat st seat s).score.records = (ensureRecord st seat s).score.records := by
  unfold giveSeat
  split
  · next h => simp [ensureRecord_records, h]
  · exact recompute_records

theorem giveSeat_inRange (st : Station) (seat : Seat) (hs : recordsInRange s) : recordsInRange (giveSeat st seat s) :=
  recordsInRange_congr (ensureRecord_inRange st seat hs) (giveSeat_records st seat)

theorem recordOf_none {st : Station} {seat : Seat} (h : recordOf s st seat = none) :
    ∀ r ∈ s.score.records, ¬(r.station = st ∧ r.seat = seat) := by
  intro r hr
  simpa using List.find?_eq_none.mp h r hr

/-- What a rewriting makes of the table, whether the seat has a record or not. -/
theorem rewriteRecord_records (st : Station) (seat : Seat) (g : SeatRecord → SeatRecord) :
    (rewriteRecord st seat g s).score.records
      = s.score.records.map fun r => if r.station = st ∧ r.seat = seat then g r else r := by
  unfold rewriteRecord
  split
  · rw [moveTotal_records]; rfl
  · next hnone =>
    exact ((List.map_congr_left fun r hr => if_neg (recordOf_none hnone r hr)).trans (List.map_id' _)).symm

theorem rewriteRecord_inRange (st : Station) (seat : Seat) {g : SeatRecord → SeatRecord}
    (hg : ∀ r, recordInRange r → recordInRange (g r)) (hs : recordsInRange s) :
    recordsInRange (rewriteRecord st seat g s) := by
  intro r hr
  rw [rewriteRecord_records, List.mem_map] at hr
  obtain ⟨x, hx, rfl⟩ := hr
  split
  · exact hg x (hs x hx)
  · exact hs x hx

theorem sweep_inRange (set : ChoiceSet) (hq : questionInRange q) (hs : recordsInRange s) :
    recordsInRange (sweep q set s) :=
  foldl_holds (fun _ _ ht => rewriteRecord_inRange _ _ (fun _ hx => passRecord_inRange set s hq hx) ht) _ s hs

theorem overwriteSeats_inRange (st : Station) (body : List Byte) (hs : recordsInRange s) :
    recordsInRange (overwriteSeats st body s) :=
  recordsInRange_congr
    (foldl_holds (fun _ seat ht => rewriteRecord_inRange _ _ (fun _ hx => tallyRecord_inRange body _ seat hx)
      (ensureRecord_inRange st seat ht)) (seatsBelow (numAt body 3)) s hs)
    recompute_records

theorem beginScores_inRange (s : State) : recordsInRange (beginScores s) := by
  intro r hr
  simp only [beginScores, recompute_records, List.mem_map] at hr
  obtain ⟨x, -, rfl⟩ := hr
  exact newRecord_inRange _ _

/-! ### Every step -/

theorem rangesHold_congr (hs : rangesHold s) (hquestion : u.engine.question = s.engine.question)
    (hrecords : u.score.records = s.score.records) : rangesHold u := by
  unfold rangesHold at hs ⊢
  rw [hquestion, hrecords]
  exact hs

theorem rangesHold_dropped (hquestion : u.engine.question = none) (hrecords : recordsInRange u) : rangesHold u :=
  ⟨fun q hq => by simp [hquestion] at hq, hrecords⟩

theorem rangesHold_kept (hs : rangesHold s) (hquestion : u.engine.question = s.engine.question)
    (hrecords : recordsInRange u) : rangesHold u :=
  ⟨fun q hq => hs.1 q (hquestion ▸ hq), hrecords⟩

theorem hearFrame_records : (hearFrame f s).score.records = s.score.records := by
  simp only [hearFrame]
  split
  · rw [(setCode_keeps _ _ _).2]; simp
  · simp

theorem endQuestion_question : (endQuestion s).engine.question = none := by
  simp [endQuestion, enterClosed_engine, dropQuestion_engine]

theorem endQuestion_rangesHold (hs : recordsInRange s) : rangesHold (endQuestion s) :=
  rangesHold_dropped endQuestion_question (recordsInRange_congr hs (by simp))

theorem dealBuzz_rangesHold (hs : rangesHold s) : rangesHold (dealBuzz f q s) := by
  simp only [dealBuzz]
  split
  · exact hs
  · split
    · exact rangesHold_kept hs (by simp) (giveSeat_inRange _ _ (recordsInRange_congr hs.2 (by simp)))
    · exact hs

theorem judged_inRange {g : SeatRecord → SeatRecord} (st : Station) (seat : Seat)
    (hg : ∀ r, recordInRange r → recordInRange (g r)) (hs : recordsInRange s) :
    recordsInRange (recompute (rewriteRecord st seat g s)) :=
  recordsInRange_congr (rewriteRecord_inRange st seat hg hs) recompute_records

theorem dealVerdict_rangesHold (hs : rangesHold s) (hq : s.engine.question = some q) :
    rangesHold (dealVerdict f q s) := by
  have hrange := hs.1 q hq
  unfold dealVerdict
  split
  · next b _ =>
    have hcorrect : recordsInRange (judgeCorrect q b s) := judged_inRange _ _ (fun _ _ => awardRecord_inRange b.e hrange) hs.2
    have hwrong : recordsInRange (judgeWrong q b s) := judged_inRange _ _ (fun _ _ => penaliseRecord_inRange hrange) hs.2
    split
    · split
      · simp only [verdictCorrect]
        split
        · exact endQuestion_rangesHold hcorrect
        · exact endQuestion_rangesHold hcorrect
      · exact rangesHold_kept hs (by simp) (recordsInRange_congr hwrong (by simp [verdictWrong]))
      · exact rangesHold_congr hs (by simp) (by simp)
    · exact hs
  · exact hs

theorem judgeAnswer_inRange (st : Station) (a : AnswerEntry) (hs : recordsInRange s) :
    recordsInRange (judgeAnswer st q s a) := by
  simp only [judgeAnswer]
  split
  · exact hs
  · split
    · exact giveSeat_inRange _ _ hs
    · split
      · exact hs
      · exact hs

theorem dealAnswer_rangesHold (hs : rangesHold s) : rangesHold (dealAnswer f q s) :=
  rangesHold_kept hs (by simp) (recordsInRange_congr
    (foldl_holds (fun _ a ht => judgeAnswer_inRange (q := q) (keyStation f.key) a ht) (answerEntries (f.body.drop 2))
      s hs.2)
    (by simp [dealAnswer]))

theorem dealShow_rangesHold (hs : rangesHold s) : rangesHold (dealShow f s) := by
  have hrecords : recordsInRange (dealShow f s) := by
    simp only [dealShow]
    exact recordsInRange_congr (beginScores_inRange _) (by simp; rfl)
  cases hopen : s.engine.state.isOpen with
  | true => exact rangesHold_dropped (by simp [dealShow, hopen, dropQuestion_engine]) hrecords
  | false => exact rangesHold_kept hs (by simp [dealShow, hopen]) hrecords

theorem openQuestion_rangesHold (hs : recordsInRange s) : rangesHold (openQuestion f s) := by
  have hquestion : (openQuestion f s).engine.question = some (questionRecord f) := by simp [openQuestion]
  refine ⟨fun q hq => ?_, recordsInRange_congr hs (by simp)⟩
  rw [hquestion] at hq
  exact Option.some.inj hq ▸ questionRecord_inRange f

@[simp] theorem adoptShow_question : (adoptShow f s).engine.question = s.engine.question := by
  simp only [adoptShow]
  split <;> simp

theorem dealTally_rangesHold (hs : rangesHold s) : rangesHold (dealTally f s) := by
  simp only [dealTally]
  split
  · exact hs
  · have hknown : rangesHold (if s.engine.showNo = 0 then adoptShow f s else s) := by
      split
      · exact rangesHold_congr hs (by simp) (by simp)
      · exact hs
    exact rangesHold_kept hknown (by simp)
      (recordsInRange_congr (overwriteSeats_inRange (keyStation f.key) f.body hknown.2) (by simp))

theorem dealOf_rangesHold (k : Kind) (hs : rangesHold s) : rangesHold (dealOf k f s) := by
  cases k with
  | newShow => exact dealShow_rangesHold hs
  | openQ =>
    simp only [dealOf, dealOpen]
    split
    · exact hs
    · exact openQuestion_rangesHold hs.2
  | closeQ => exact withQuestion_keeps (deal := fun _ _ s => endQuestion s) (fun _ => hs) fun _ _ => endQuestion_rangesHold hs.2
  | halt => exact withQuestion_keeps (deal := haltQuestion) (fun _ => hs) fun _ _ => hs
  | resume => exact withQuestion_keeps (deal := resumeQuestion) (fun _ => hs) fun _ _ => hs
  | verdict => exact withQuestion_keeps (fun _ => hs) fun _ h => dealVerdict_rangesHold hs (questionTest_passed h).1.2
  | buzz => exact withQuestion_keeps (fun _ => hs) fun _ _ => dealBuzz_rangesHold hs
  | answer => exact withQuestion_keeps (fun _ => hs) fun _ _ => dealAnswer_rangesHold hs
  | reveal =>
    refine withQuestion_keeps (fun _ => hs) fun q _ => ?_
    simp only [dealReveal]
    split
    · exact endQuestion_rangesHold hs.2
    · exact rangesHold_congr hs (by simp [beginPass]) (by simp)
  | roll =>
    simp only [dealOf, dealRoll]
    split
    · exact hs
    · exact rangesHold_congr hs (by simp) (census_keeps s f).2
  | hello =>
    refine rangesHold_congr hs (by simp [dealOf]) ?_
    simp only [dealOf, dealHello]
    (repeat' split) <;> simp [(census_keeps s f).2]
  | tally => exact dealTally_rangesHold hs

theorem Effect.rangesHold {c : Instr} (h : Effect c s u) (hs : rangesHold s) : rangesHold u := by
  cases h with
  | line h =>
    have hframe := h.lineOnly
    exact rangesHold_congr hs (by simp_all [lineOnly, changesOnly]) (by simp_all [lineOnly, changesOnly])
  | panel h => exact rangesHold_congr hs (by simp_all [panelOnly, changesOnly]) (by simp_all [panelOnly, changesOnly])
  | timer h => exact rangesHold_congr hs (by simp_all [timerOnly, changesOnly]) (by simp_all [timerOnly, changesOnly])
  | press seat p => exact rangesHold_congr hs (by simp [pressOf]) (by simp [pressOf])
  | expiry _ _ => exact hs
  | turn f _ _ _ =>
    exact turnOf_keeps (rangesHold_congr hs (by simp) hearFrame_records) (fun k t ht => dealOf_rangesHold k ht)
      fun t ht => ht
  | pass q set hq _ _ =>
    refine rangesHold_dropped (by simp [passCompleted, enterClosed_engine, dropQuestion_engine])
      (recordsInRange_congr (sweep_inRange set (hs.1 q hq) hs.2) ?_)
    simp [passCompleted, recompute_records]
  | deadline => exact rangesHold_congr hs (by simp) (by simp)
  | watch => exact rangesHold_congr hs (by simp) (by simp)
  | link h =>
    have hframe := h.linkOnly
    exact rangesHold_congr hs (by simp_all [linkOnly, changesOnly]) (by simp_all [linkOnly, changesOnly])

theorem scoreStart_inRange (straps : Straps) : ∀ r ∈ (scoreStart straps).records, recordInRange r := by
  intro r hr
  obtain ⟨seat, -, rfl⟩ := List.mem_map.mp hr
  exact newRecord_inRange _ _

theorem step_rangesHold : ∀ s t : State, rangesHold s → step s = .next t → rangesHold t :=
  step_keeps (fun _ _ h => h) (fun _ h => h) (fun _ _ _ h => h)
    (fun _ _ _ => rangesHold_dropped rfl (scoreStart_inRange _))
    fun _ _ _ _ h he => rangesHold_congr ((effectOf_effect he).rangesHold h) (by simp) (by simp)

end Sys2Proof.Machine
end

section

open Sys2Proof.Machine

/-- Settles O58: each of the three conditions is kept by every effect on its own; the BUZZ that joins the queue meets
the tests of R120, a new record has count 1, and every value comes through its clamp. -/
theorem everyStepKeepsBuzzesPollsAndRanges : Obligations.EveryStepKeepsBuzzesPollsAndRanges :=
  fun s t h => ⟨fun hs => step_buzzSound s t hs h, fun hs => step_tallyAgrees s t hs h,
    fun hs => step_rangesHold s t hs h⟩

end

section
/-! PROOFS. Each team total is the sum of the seat totals attached to it, the records stand in order, and the standings
are those of the records, at every step (R151, R154, R164). -/

namespace Sys2Proof.Machine

open Sys2Proof.Safety

variable {s u : State} {f : RxEntry} {q : Question}

/-! ### Sums of totals -/

@[simp] theorem sumTotals_nil (p : SeatRecord → Bool) : sumTotals p [] = 0 := rfl

@[simp] theorem sumTotals_cons (p : SeatRecord → Bool) (r : SeatRecord) (l : List SeatRecord) :
    sumTotals p (r :: l) = (if p r then r.total else 0) + sumTotals p l := by
  cases h : p r <;> simp [sumTotals, h]

theorem sumTotals_append (p : SeatRecord → Bool) (l m : List SeatRecord) :
    sumTotals p (l ++ m) = sumTotals p l + sumTotals p m := by
  simp [sumTotals]

theorem sumTotals_perm (p : SeatRecord → Bool) {l m : List SeatRecord} (h : l.Perm m) :
    sumTotals p l = sumTotals p m :=
  ((h.filter p).map fun r : SeatRecord => r.total).sum_eq

theorem sumTotals_zero (p : SeatRecord → Bool) {l : List SeatRecord} (h : ∀ r ∈ l, r.total = 0) :
    sumTotals p l = 0 := by
  induction l with
  | nil => rfl
  | cons r l ih =>
    rw [sumTotals_cons, ih fun x hx => h x (List.mem_cons_of_mem r hx), h r List.mem_cons_self]
    simp

/-- A station whose code changes takes its records out of the old team's sum and into the new one's. -/
theorem sumTotals_recoded (st : Station) {p p' : SeatRecord → Bool} {old new : Prop} [Decidable old] [Decidable new]
    (hown : ∀ r : SeatRecord, r.station = st → ((p r = true ↔ old) ∧ (p' r = true ↔ new)))
    (hother : ∀ r : SeatRecord, r.station ≠ st → p' r = p r) (l : List SeatRecord) :
    sumTotals p' l = sumTotals p l - (if old then sumTotals (fun r => decide (r.station = st)) l else 0)
      + (if new then sumTotals (fun r => decide (r.station = st)) l else 0) := by
  induction l with
  | nil => simp
  | cons r l ih =>
    simp only [sumTotals_cons, ih, decide_eq_true_eq]
    by_cases hr : r.station = st
    · obtain ⟨hold, hnew⟩ := hown r hr
      simp only [hold, hnew, hr, if_true]
      split <;> split <;> omega
    · simp only [hother r hr, hr, if_false, zero_add]
      omega

/-! ### The table in order (R151) -/

theorem insertRecord_ordered {r : SeatRecord} {l : List SeatRecord} (hl : recordsOrdered l)
    (hnew : ∀ x ∈ l, ¬(x.station = r.station ∧ x.seat = r.seat)) : recordsOrdered (insertRecord r l) := by
  simp only [recordsOrdered, seatOrder_iff, seatSame_iff] at hl hnew ⊢
  induction l with
  | nil => simp [insertRecord]
  | cons h t ih =>
    obtain ⟨hfirst, hrest⟩ := List.pairwise_cons.mp hl
    unfold insertRecord
    simp only [seatOrder_iff]
    split
    · next hlt =>
      refine List.pairwise_cons.mpr ⟨fun x hx => ?_, hl⟩
      rcases List.mem_cons.mp hx with rfl | hx
      · exact hlt
      · have := hfirst x hx
        omega
    · next hge =>
      refine List.pairwise_cons.mpr ⟨fun x hx => ?_, ih hrest fun x hx => hnew x (List.mem_cons_of_mem h hx)⟩
      rcases mem_insertRecord.mp hx with rfl | hx
      · have := hnew h List.mem_cons_self
        omega
      · exact hfirst x hx

/-- A rewriting that keeps station and seat keeps the order. -/
theorem map_ordered {g : SeatRecord → SeatRecord} (hg : ∀ r, (g r).station = r.station ∧ (g r).seat = r.seat)
    {l : List SeatRecord} (hl : recordsOrdered l) : recordsOrdered (l.map g) := by
  refine List.pairwise_map.mpr (hl.imp fun {a b} hab => ?_)
  rw [(hg a).1, (hg a).2, (hg b).1, (hg b).2]
  exact hab

/-! ### What keeps the sums -/

theorem scoresAddUp_congr (hs : scoresAddUp s) (hrecords : u.score.records = s.score.records)
    (htotals : u.score.totals = s.score.totals) (hcodes : ∀ st, (rosterOf u st).code = (rosterOf s st).code) :
    scoresAddUp u := by
  have hteams : attachedTeam u = attachedTeam s := by funext st; rw [attachedTeam, hcodes, attachedTeam]
  have hsums : attachedSum u = attachedSum s := by funext t; rw [attachedSum, hteams, hrecords, attachedSum]
  exact ⟨by rw [hrecords]; exact hs.1, fun t => by rw [htotals, hsums]; exact hs.2 t⟩

/-- The sums hold, and the standings are those of the records. -/
def scoresSound (s : State) : Prop := scoresAddUp s ∧ s.score.standings = standingsOf s

theorem scoresSound_codes (hs : scoresSound s) (hscore : u.score = s.score)
    (hcodes : ∀ st, (rosterOf u st).code = (rosterOf s st).code) : scoresSound u :=
  ⟨scoresAddUp_congr hs.1 (by rw [hscore]) (by rw [hscore]) hcodes, by
    rw [hscore, hs.2]
    exact standingsOf_congr (by rw [hscore]) (by rw [hscore]) fun st => (hcodes st).symm⟩

theorem scoresSound_congr (hs : scoresSound s) (hscore : u.score = s.score)
    (hentries : u.roster.entries = s.roster.entries) : scoresSound u :=
  scoresSound_codes hs hscore fun st => by simp [rosterOf, hentries]

theorem recompute_scoresSound (hs : scoresAddUp s) : scoresSound (recompute s) :=
  ⟨scoresAddUp_congr hs recompute_records (by rw [recompute_score]) fun st => by simp [rosterOf],
    recompute_standings s⟩

theorem ensureRecord_scoresAddUp (st : Station) (seat : Seat) (hs : scoresAddUp s) :
    scoresAddUp (ensureRecord st seat s) := by
  obtain ⟨hordered, htotals⟩ := hs
  unfold ensureRecord
  split
  · exact ⟨hordered, htotals⟩
  · next hnone =>
    refine ⟨insertRecord_ordered hordered (recordOf_none hnone), fun t => (htotals t).trans ?_⟩
    change attachedSum s t = sumTotals (fun r => decide (attachedTeam s r.station = some t)) (insertRecord _ _)
    rw [sumTotals_perm _ (insertRecord_perm _ _), sumTotals_cons]
    have hzero : (newRecord st seat).total = 0 := rfl
    rw [hzero, ite_self, zero_add]
    rfl

theorem giveSeat_scoresSound (st : Station) (seat : Seat) (hs : scoresSound s) : scoresSound (giveSeat st seat s) := by
  unfold giveSeat
  split
  · exact hs
  · exact recompute_scoresSound (ensureRecord_scoresAddUp st seat hs.1)

/-- In an ordered table the record found for a seat is the only one of that seat. -/
theorem recordOf_split {st : Station} {seat : Seat} {r : SeatRecord} (hordered : recordsOrdered s.score.records)
    (h : recordOf s st seat = some r) :
    r.station = st ∧ r.seat = seat ∧ ∃ front back, s.score.records = front ++ r :: back
      ∧ (∀ x ∈ front, ¬(x.station = st ∧ x.seat = seat)) ∧ ∀ x ∈ back, ¬(x.station = st ∧ x.seat = seat) := by
  obtain ⟨hr, front, back, htable, hfront⟩ := List.find?_eq_some_iff_append.mp h
  simp only [Bool.and_eq_true, decide_eq_true_eq] at hr
  obtain ⟨rfl, rfl⟩ := hr
  refine ⟨rfl, rfl, front, back, htable, fun x hx hsame => absurd (hfront x hx) (by simp [hsame]),
    fun x hx => ?_⟩
  rw [htable] at hordered
  have hafter := (List.pairwise_cons.mp (List.pairwise_append.mp hordered).2.1).1 x hx
  rw [seatOrder_iff] at hafter
  rw [seatSame_iff]
  omega

/-- The rewriting of a seat's record, of one that is there in an ordered table: the record changes in its place. -/
theorem rewriteRecord_split {st : Station} {seat : Seat} {g : SeatRecord → SeatRecord} {r : SeatRecord}
    (hordered : recordsOrdered s.score.records) (h : recordOf s st seat = some r) :
    ∃ front back, s.score.records = front ++ r :: back
      ∧ (rewriteRecord st seat g s).score.records = front ++ g r :: back := by
  obtain ⟨hst, hseat, front, back, htable, hfront, hback⟩ := recordOf_split hordered h
  have hkeep : ∀ l : List SeatRecord, (∀ x ∈ l, ¬(x.station = st ∧ x.seat = seat)) →
      l.map (fun r => if r.station = st ∧ r.seat = seat then g r else r) = l := fun l hl =>
    (List.map_congr_left fun x hx => if_neg (hl x hx)).trans (List.map_id' l)
  exact ⟨front, back, htable, by
    simp [rewriteRecord_records, htable, hkeep front hfront, hkeep back hback, hst, hseat]⟩

theorem rewriteRecord_totals {st : Station} {seat : Seat} (g : SeatRecord → SeatRecord) {r : SeatRecord}
    (h : recordOf s st seat = some r) (k : Team) :
    (rewriteRecord st seat g s).score.totals[k]
      = s.score.totals[k] + if attachedTeam s st = some k then (g r).total - r.total else 0 := by
  simp only [rewriteRecord, h, moveTotal_totals, replaceRecord_score]

theorem rewriteRecord_scoresAddUp (st : Station) (seat : Seat) {g : SeatRecord → SeatRecord}
    (hg : ∀ r, (g r).station = r.station ∧ (g r).seat = r.seat) (hs : scoresAddUp s) :
    scoresAddUp (rewriteRecord st seat g s) := by
  obtain ⟨hordered, htotals⟩ := id hs
  cases h : recordOf s st seat with
  | none => simpa [rewriteRecord, h] using hs
  | some r =>
    obtain ⟨hst, -⟩ := (recordOf_some s h).2
    obtain ⟨front, back, hbefore, hafter⟩ := rewriteRecord_split (g := g) hordered h
    constructor
    · rw [rewriteRecord_records]
      exact map_ordered (fun r => by split <;> simp [hg]) hordered
    · intro k
      have hsum := htotals k
      simp only [attachedSum, hbefore, sumTotals_append, sumTotals_cons, hst] at hsum
      have hattached : ∀ x, attachedTeam (rewriteRecord st seat g s) x = attachedTeam s x := by
        simp [attachedTeam, rosterOf]
      simp only [rewriteRecord_totals g h, attachedSum, hafter, hattached, sumTotals_append, sumTotals_cons, (hg r).1,
        hst, hsum, decide_eq_true_eq]
      split <;> omega

/-! ### The score unit's operations -/

theorem judged_scoresSound (st : Station) (seat : Seat) {g : SeatRecord → SeatRecord}
    (hg : ∀ r, (g r).station = r.station ∧ (g r).seat = r.seat) (hs : scoresSound s) :
    scoresSound (recompute (rewriteRecord st seat g s)) :=
  recompute_scoresSound (rewriteRecord_scoresAddUp st seat hg hs.1)

theorem passRecord_place (set : ChoiceSet) (t : State) (r : SeatRecord) :
    (passRecord q set t r).station = r.station ∧ (passRecord q set t r).seat = r.seat := by
  unfold passRecord
  (repeat' split) <;> exact ⟨rfl, rfl⟩

theorem sweep_scoresAddUp (set : ChoiceSet) (hs : scoresAddUp s) : scoresAddUp (sweep q set s) :=
  foldl_holds (fun _ _ ht => rewriteRecord_scoresAddUp _ _ (passRecord_place set s) ht) _ s hs

theorem overwriteSeat_scoresAddUp (st : Station) (body : List Byte) (count : Nat) (seat : Seat)
    (hs : scoresAddUp s) : scoresAddUp (overwriteSeat st body count s seat) :=
  rewriteRecord_scoresAddUp st seat (g := fun r => { r with
      total := tallyTotal body seat.val, streak := tallyStreak body count seat.val })
    (fun _ => ⟨rfl, rfl⟩) (ensureRecord_scoresAddUp st seat hs)

theorem overwriteSeats_scoresSound (st : Station) (body : List Byte) (hs : scoresAddUp s) :
    scoresSound (overwriteSeats st body s) :=
  recompute_scoresSound
    (foldl_holds (fun _ seat ht => overwriteSeat_scoresAddUp st body (numAt body 3) seat ht) _ s hs)

theorem beginScores_scoresSound (hs : scoresSound s) : scoresSound (beginScores s) := by
  refine recompute_scoresSound ⟨?ordered, fun t => ?sums⟩
  case ordered =>
    exact map_ordered (g := fun r => newRecord r.station r.seat) (fun _ => ⟨rfl, rfl⟩) (hs.1.1.filter _)
  case sums =>
    rw [attachedSum, sumTotals_zero]
    · simp
    · intro r hr
      obtain ⟨x, -, rfl⟩ := List.mem_map.mp hr
      rfl

/-! ### The roster's part (R154, R155) -/

theorem setCode_scoresSound (st : Station) (code : Role) (hs : scoresSound s) : scoresSound (setCode st code s) := by
  by_cases hown : st = s.straps.station
  · rw [hown, setCode_own]; exact hs
  by_cases hcode : (rosterOf s st).code = some code
  · rw [setCode_known s hcode]; exact hs
  refine ⟨⟨by rw [setCode_records hown hcode]; exact hs.1.1, fun k => ?_⟩, setCode_standings hown hcode⟩
  have hroster : ∀ x, rosterOf (setCode st code s) x
      = if st = x then { rosterOf s st with code := some code } else rosterOf s x := rosterOf_setCode s hown code
  have hafter : attachedSum (setCode st code s) k
      = sumTotals (fun r => decide (attachedTeam (setCode st code s) r.station = some k)) s.score.records := by
    rw [attachedSum, setCode_records hown hcode]
  rw [setCode_totals hown hcode, hs.1.2 k, hafter, attachedSum, contribution]
  symm
  apply sumTotals_recoded st
  · rintro r rfl
    simp [attachedTeam_eq_some, hroster]
  · intro r hr
    have hteam : attachedTeam (setCode st code s) r.station = attachedTeam s r.station := by
      rw [attachedTeam, hroster, if_neg (Ne.symm hr), attachedTeam]
    rw [hteam]

theorem setPresent_codes (st x : Station) : (rosterOf (setPresent st s) x).code = (rosterOf s x).code := by
  by_cases hst : st = s.straps.station
  · rw [hst, setPresent_own]
  · rw [setPresent_other s hst, rosterOf_setEntry]
    split
    · next h => rw [h]
    · rfl

theorem setPresent_scoresSound (st : Station) (hs : scoresSound s) : scoresSound (setPresent st s) :=
  scoresSound_codes hs (by simp) (setPresent_codes st)

theorem hearFrame_scoresSound (f : RxEntry) (hs : scoresSound s) : scoresSound (hearFrame f s) := by
  simp only [hearFrame]
  split
  · exact setCode_scoresSound _ _ (setPresent_scoresSound _ hs)
  · exact setPresent_scoresSound _ hs

theorem census_scoresSound (f : RxEntry) (hs : scoresSound s) : scoresSound (census f s) := by
  have hmarked : scoresSound (f.marks.foldl applyMark s) :=
    foldl_holds (fun _ _ ht => setCode_scoresSound _ _ (setPresent_scoresSound _ ht)) _ s hs
  unfold census
  split
  · exact hmarked
  · refine scoresSound_codes hmarked (by simp) fun st => ?_
    rw [rosterOf_markAbsent]
    split <;> rfl

/-! ### Entries that stand -/

@[simp] theorem abandonCatchUp_entries (s : State) : (abandonCatchUp s).roster.entries = s.roster.entries := by
  unfold abandonCatchUp
  split <;> simp

@[simp] theorem catchUpDone_entries (expected received : List Station) (s : State) :
    (catchUpDone expected received s).roster.entries = s.roster.entries := by
  simp [catchUpDone]

@[simp] theorem beginCatchUp_entries (f : RxEntry) (s : State) :
    (beginCatchUp f s).roster.entries = s.roster.entries := by
  simp only [beginCatchUp]
  split <;> simp

@[simp] theorem adoptShow_entries (f : RxEntry) (s : State) : (adoptShow f s).roster.entries = s.roster.entries := by
  simp only [adoptShow]
  split <;> simp

@[simp] theorem receiveTally_entries (st : Station) (s : State) :
    (receiveTally st s).roster.entries = s.roster.entries := by
  simp only [receiveTally]
  (repeat' split) <;> simp

@[simp] theorem settleShow_entries (n : Nat) (s : State) : (settleShow n s).roster.entries = s.roster.entries := by
  simp only [settleShow]
  split <;> simp

@[simp] theorem openQuestion_entries (f : RxEntry) (s : State) :
    (openQuestion f s).roster.entries = s.roster.entries := by
  simp only [openQuestion]
  split <;> simp

/-! ### The frames that the engine deals with -/

theorem endQuestion_scoresSound (hs : scoresSound s) : scoresSound (endQuestion s) :=
  scoresSound_congr hs (by simp) (by simp)

theorem dealBuzz_scoresSound (hs : scoresSound s) : scoresSound (dealBuzz f q s) := by
  simp only [dealBuzz]
  split
  · exact hs
  · split
    · exact giveSeat_scoresSound _ _ (scoresSound_congr hs (by simp) (by simp))
    · exact hs

theorem dealVerdict_scoresSound (hs : scoresSound s) : scoresSound (dealVerdict f q s) := by
  unfold dealVerdict
  split
  · next b _ =>
    have hcorrect : scoresSound (judgeCorrect q b s) := judged_scoresSound _ _ (fun _ => ⟨rfl, rfl⟩) hs
    have hwrong : scoresSound (judgeWrong q b s) := judged_scoresSound _ _ (fun _ => ⟨rfl, rfl⟩) hs
    split
    · split
      · simp only [verdictCorrect]
        split
        · exact endQuestion_scoresSound (scoresSound_congr hcorrect (by simp) (by simp))
        · exact endQuestion_scoresSound hcorrect
      · exact scoresSound_congr hwrong (by simp [verdictWrong]) (by simp [verdictWrong])
      · exact scoresSound_congr hs (by simp) (by simp)
    · exact hs
  · exact hs

theorem judgeAnswer_scoresSound (st : Station) (a : AnswerEntry) (hs : scoresSound s) :
    scoresSound (judgeAnswer st q s a) := by
  simp only [judgeAnswer]
  split
  · exact hs
  · split
    · exact giveSeat_scoresSound _ _ hs
    · split
      · exact hs
      · exact hs

theorem dealAnswer_scoresSound (hs : scoresSound s) : scoresSound (dealAnswer f q s) :=
  scoresSound_congr
    (foldl_holds (fun _ a ht => judgeAnswer_scoresSound (q := q) (keyStation f.key) a ht)
      (answerEntries (f.body.drop 2)) s hs)
    (by simp [dealAnswer]) (by simp [dealAnswer])

theorem dealShow_scoresSound (hs : scoresSound s) : scoresSound (dealShow f s) := by
  simp only [dealShow]
  refine scoresSound_congr (beginScores_scoresSound ?_) (by simp; rfl) (by simp)
  exact scoresSound_congr hs (by split <;> simp) (by split <;> simp)

theorem dealTally_scoresSound (hs : scoresSound s) : scoresSound (dealTally f s) := by
  simp only [dealTally]
  split
  · exact hs
  · have hknown : scoresSound (if s.engine.showNo = 0 then adoptShow f s else s) := by
      split
      · exact scoresSound_congr hs (by simp) (by simp)
      · exact hs
    exact scoresSound_congr (overwriteSeats_scoresSound (keyStation f.key) f.body hknown.1) (by simp) (by simp)

theorem dealHello_scoresSound (hs : scoresSound s) : scoresSound (dealHello f s) := by
  have hcounted := census_scoresSound f hs
  simp only [dealHello]
  split
  · split
    · exact scoresSound_congr hcounted (by simp) (by simp)
    · exact hcounted
  · split
    · exact hcounted
    · exact scoresSound_congr hcounted (by simp) (by simp)

theorem dealOf_scoresSound (k : Kind) (hs : scoresSound s) : scoresSound (dealOf k f s) := by
  cases k with
  | newShow => exact dealShow_scoresSound hs
  | openQ =>
    simp only [dealOf, dealOpen]
    split
    · exact hs
    · exact scoresSound_congr hs (by simp) (by simp)
  | closeQ =>
    exact withQuestion_keeps (deal := fun _ _ s => endQuestion s) (fun _ => hs) fun _ _ => endQuestion_scoresSound hs
  | halt => exact withQuestion_keeps (deal := haltQuestion) (fun _ => hs) fun _ _ => hs
  | resume => exact withQuestion_keeps (deal := resumeQuestion) (fun _ => hs) fun _ _ => hs
  | verdict => exact withQuestion_keeps (fun _ => hs) fun _ _ => dealVerdict_scoresSound hs
  | buzz => exact withQuestion_keeps (fun _ => hs) fun _ _ => dealBuzz_scoresSound hs
  | answer => exact withQuestion_keeps (fun _ => hs) fun _ _ => dealAnswer_scoresSound hs
  | reveal =>
    refine withQuestion_keeps (fun _ => hs) fun q _ => ?_
    simp only [dealReveal]
    split
    · exact endQuestion_scoresSound hs
    · exact scoresSound_congr hs (by simp) (by simp)
  | roll =>
    simp only [dealOf, dealRoll]
    split
    · exact hs
    · exact census_scoresSound f hs
  | hello => exact dealHello_scoresSound hs
  | tally => exact dealTally_scoresSound hs

/-! ### Every step -/

theorem Effect.scoresSound {c : Instr} (h : Effect c s u) (hs : scoresSound s) : scoresSound u := by
  cases h with
  | line h =>
    have hframe := h.lineOnly
    exact scoresSound_congr hs (by simp_all [lineOnly, changesOnly]) hframe.2.1
  | panel h => exact scoresSound_congr hs (by simp_all [panelOnly, changesOnly]) (by simp_all [panelOnly, changesOnly])
  | timer h => exact scoresSound_congr hs (by simp_all [timerOnly, changesOnly]) (by simp_all [timerOnly, changesOnly])
  | press seat p => exact scoresSound_congr hs (by simp [pressOf]) (by simp [pressOf])
  | expiry _ _ => exact hs
  | turn f _ _ _ =>
    exact turnOf_keeps (hearFrame_scoresSound f hs) (fun k t ht => dealOf_scoresSound k ht) fun t ht => ht
  | pass q set _ _ _ =>
    exact scoresSound_congr (recompute_scoresSound (sweep_scoresAddUp (q := q) set hs.1)) (by simp [passCompleted])
      (by simp [passCompleted])
  | deadline => exact scoresSound_congr hs (by simp) (by simp)
  | watch => exact scoresSound_congr hs (by simp) (by simp)
  | link h =>
    have hframe := h.linkOnly
    exact scoresSound_congr hs (by simp_all [linkOnly, changesOnly]) (by simp_all [linkOnly, changesOnly])

/-! ### The start (R151, R154, R164) -/

theorem seatsBelow_ordered (n : Nat) : (seatsBelow n).Pairwise (· < ·) :=
  (List.pairwise_lt_finRange 8).filter _

/-- The own entry of a roster that has just started. -/
theorem rosterOf_startWith (straps : Straps) (waiting : List Instr) (st : Station) :
    rosterOf (startWith straps waiting) st
      = if st = straps.station then { code := some straps.role, present := true }
        else { code := none, present := false } := by
  simp only [rosterOf, startWith, rosterStart, putAt, Fin.getElem_fin, Vector.getElem_set, Vector.getElem_replicate,
    Fin.ext_iff, eq_comm]

theorem scoreStart_total {straps : Straps} {r : SeatRecord} (hr : r ∈ (scoreStart straps).records) :
    r.total = 0 ∧ r.station = straps.station := by
  obtain ⟨seat, -, rfl⟩ := List.mem_map.mp hr
  exact ⟨rfl, rfl⟩

/-- A desk has a seat at least, and a presenter none (R180). -/
theorem latchStraps_seats (pins : StrapPins) :
    ((latchStraps pins).role = .presenter ∧ (latchStraps pins).seatCount = 0)
      ∨ ∃ t, (latchStraps pins).role = .desk t ∧ 0 < (latchStraps pins).seatCount := by
  by_cases h : pins.team = 0
  · exact .inl ⟨dif_pos h, if_pos h⟩
  · exact .inr ⟨_, dif_neg h, by simp only [latchStraps, if_neg h]; omega⟩

theorem teamListed_startWith (straps : Straps) (waiting : List Instr) (k : Team) :
    teamListed (startWith straps waiting) k = true ↔ straps.role = .desk k ∧ 0 < straps.seatCount := by
  have hcode : attachedTeam (startWith straps waiting) straps.station = some k ↔ straps.role = .desk k := by
    simp [attachedTeam_eq_some, rosterOf_startWith]
  have hrecords : (startWith straps waiting).score.records
      = (seatsBelow straps.seatCount).map (newRecord straps.station) := rfl
  simp only [teamListed, hrecords, List.any_map, List.any_eq_true, Function.comp, newRecord, decide_eq_true_eq, hcode,
    seatsBelow, List.mem_filter, List.mem_finRange, true_and]
  constructor
  · rintro ⟨seat, hseat, hrole⟩
    exact ⟨hrole, by omega⟩
  · rintro ⟨hrole, hseats⟩
    exact ⟨0, hseats, hrole⟩

theorem finRange_filter_eq : ∀ t : Team, (List.finRange 7).filter (fun k => decide (k = t)) = [t] := by
  decide

theorem standingsOf_start (pins : StrapPins) (waiting : List Instr) :
    standingsOf (startWith (latchStraps pins) waiting) = (scoreStart (latchStraps pins)).standings := by
  have htotals : ∀ k : Team, (startWith (latchStraps pins) waiting).score.totals[k] = 0 := by
    simp [startWith, scoreStart]
  have hlisted := teamListed_startWith (latchStraps pins) waiting
  rcases latchStraps_seats pins with ⟨hrole, hseats⟩ | ⟨t, hrole, hseats⟩
  · have hnone : (List.finRange 7).filter (teamListed (startWith (latchStraps pins) waiting)) = [] :=
      List.filter_eq_nil_iff.mpr fun k _ => by simp [hlisted, hrole]
    simp [standingsOf, hnone, scoreStart, hrole]
  · have hone : (List.finRange 7).filter (teamListed (startWith (latchStraps pins) waiting)) = [t] := by
      have hfilter : teamListed (startWith (latchStraps pins) waiting) = fun k => decide (k = t) := by
        funext k
        rw [Bool.eq_iff_iff, hlisted, hrole]
        simp [hseats, eq_comm]
      rw [hfilter, finRange_filter_eq]
    simp [standingsOf, hone, htotals, insertStanding, scoreStart, hrole]

theorem latchAndStart_scoresSound (power : Power) (pins : StrapPins) (s : State) :
    scoresSound (latchAndStart power pins s) := by
  refine scoresSound_congr (s := startWith (latchStraps pins) s.pending) ⟨⟨?ordered, fun t => ?sums⟩, ?standings⟩ rfl rfl
  case ordered =>
    refine List.pairwise_map.mpr ((seatsBelow_ordered _).imp fun {a b} hab => .inr ⟨rfl, hab⟩)
  case sums =>
    have hzero : attachedSum (startWith (latchStraps pins) s.pending) t = 0 :=
      sumTotals_zero _ fun r hr => (scoreStart_total hr).1
    rw [hzero]
    simp [startWith, scoreStart]
  case standings => exact (standingsOf_start pins s.pending).symm

theorem step_scoresSound : ∀ s t : State, scoresSound s → step s = .next t → scoresSound t :=
  step_keeps (fun _ _ h => h) (fun _ h => h) (fun _ _ _ h => h) (fun s power pins => latchAndStart_scoresSound power pins s)
    fun _ _ _ _ h he => scoresSound_congr ((effectOf_effect he).scoresSound h) (by simp) (by simp)

end Sys2Proof.Machine
end

section

open Sys2Proof.Machine

/-- Settles O56: a total moves with the record that is rewritten, a station's contribution with its code, and every
change of either ends in a recompute. -/
theorem everyStepKeepsTheScoresAddingUp : Obligations.EveryStepKeepsTheScoresAddingUp :=
  fun s t hsums hstandings h => step_scoresSound s t ⟨hsums, hstandings⟩ h

end

section
/-! PROOFS. The receive store keeps its capacities and the health state of its count at every step (R63, R67, R69 to
R72). -/

namespace Sys2Proof.Machine

open Sys2Proof.Safety

variable {s u : State} {f : RxEntry} {q : Question}

/-! ### Operations of the receive store -/

/-- Nothing that the condition speaks of has grown or changed. -/
theorem storeSound_kept (hs : storeSound s) (hlen : u.store.queue.length ≤ s.store.queue.length)
    (hrun : u.store.busyRun = s.store.busyRun) (hcount : u.store.count = s.store.count)
    (hidles : u.store.longIdles = s.store.longIdles) (hhealth : u.store.health = s.store.health) : storeSound u := by
  unfold storeSound at hs ⊢
  rw [hrun, hcount, hidles, hhealth]
  exact ⟨hlen.trans hs.1, hs.2⟩

theorem storeSound_congr (hs : storeSound s) (h : u.store = s.store) : storeSound u := by
  simpa [storeSound, h] using hs

theorem setAdrift_storeSound (hs : storeSound s) : storeSound (setAdrift s) := by
  simpa [storeSound, setAdrift_store] using hs

/-- The state of a count is one of the three that are not OFF (R70). -/
theorem healthOf_ne_off (n : Nat) : healthOf n ≠ .off := by
  unfold healthOf
  split
  · decide
  · split <;> decide

theorem addHealth_storeSound (n : Nat) (hs : storeSound s) : storeSound (addHealth n s) := by
  obtain ⟨hlen, hrun, hcount, hidles, hoff, hon⟩ := hs
  unfold storeSound
  rw [addHealth_store]
  unfold chargedStore
  split
  · next h => exact ⟨hlen, hrun, hcount, hidles, hoff, fun hne => absurd h hne⟩
  · split
    · exact ⟨hlen, hrun, by simp, by simp, by simp, by simp⟩
    · exact ⟨hlen, hrun, by simp; omega, hidles, fun h => absurd h (healthOf_ne_off _), fun _ => rfl⟩

theorem subHealth_storeSound (hs : storeSound s) : storeSound (subHealth s) := by
  obtain ⟨hlen, hrun, hcount, hidles, hoff, hon⟩ := hs
  unfold storeSound
  rw [subHealth_store]
  unfold fallenStore
  split
  · exact ⟨hlen, hrun, by simp; omega, hidles, fun h => absurd h (healthOf_ne_off _), fun _ => rfl⟩
  · exact ⟨hlen, hrun, hcount, hidles, hoff, hon⟩

theorem storeFrame_storeSound (hs : storeSound s) : storeSound (storeFrame f s) := by
  obtain ⟨hlen, hrun, hrest⟩ := id hs
  unfold storeFrame
  split
  · next hroom =>
    simp only [Config.receivePlaces] at hroom
    exact ⟨by simp; omega, by simp, hrest⟩
  · exact setAdrift_storeSound hs

theorem setTwin_store (key : Key) : (setTwin key s).store = { s.store with
    twin := true, lastFault := { cause := some .twin, position := 3, key := key } } := by
  simp [setTwin]

theorem takeFrame_storeSound (own : Bool) (p : Partial) (stamp : Stamp) (hs : storeSound s) :
    storeSound (takeFrame own p stamp s) := by
  unfold takeFrame
  split
  · exact hs
  · refine storeFrame_storeSound (subHealth_storeSound ?_)
    unfold twinTest
    split
    · exact storeSound_kept hs (by simp [setTwin_store]) (by simp [setTwin_store]) (by simp [setTwin_store])
        (by simp [setTwin_store]) (by simp [setTwin_store])
    · exact hs

theorem ownOutcome_storeSound (v : Verdict) (hs : storeSound s) : storeSound (ownOutcome v s) := by
  cases v with
  | taken => exact storeSound_congr hs (by simp [ownOutcome])
  | faultVetoed => exact storeSound_congr (addHealth_storeSound Config.ownFailureCost hs) (by simp [ownOutcome])
  | busyVetoed => exact storeSound_congr hs (by simp [ownOutcome])

theorem faultsFound_storeSound (own : Bool) (p : Partial) (hs : storeSound s) : storeSound (faultsFound own p s) := by
  simp only [faultsFound]
  split
  · exact hs
  · split
    · exact hs
    · split
      · exact hs
      · exact addHealth_storeSound 1 hs

theorem actVerdict_storeSound (v : Verdict) (w : Window) (stamp : Stamp) (hs : storeSound s) :
    storeSound (actVerdict v w stamp s) := by
  have hcounted : storeSound (faultsFound (awaitsVerdict s) w.frame (if awaitsVerdict s then ownOutcome v s else s)) := by
    apply faultsFound_storeSound
    split
    · exact ownOutcome_storeSound v hs
    · exact hs
  simp only [actVerdict]
  refine storeSound_congr ?_ (leaveWindow_frame _ v w).2.2.2.1
  split
  · exact hcounted
  · split
    · exact setAdrift_storeSound hcounted
    · exact takeFrame_storeSound _ _ _ hcounted

/-- A busy veto is decided only while the run is below its limit (R59, R67). -/
theorem decideVeto_busy {p : Partial} (h : decideVeto p s = .busyVeto) : s.store.busyRun < 3 := by
  unfold decideVeto at h
  split at h
  · cases h
  · split at h
    · cases h
    · split at h
      · next hrun => exact hrun
      · cases h

theorem openWindow_storeSound (p : Partial) (d : Decision) (hd : d = .busyVeto → s.store.busyRun < 3)
    (hs : storeSound s) : storeSound (openWindow p d s) := by
  obtain ⟨hlen, hrun, hrest⟩ := hs
  refine ⟨hlen, ?_, hrest⟩
  simp only [openWindow]
  split
  · next hbusy => exact hd hbusy.1
  · exact hrun

theorem receiveChar_storeSound (char : Byte) (framing : Bool) (hs : storeSound s) :
    storeSound (receiveChar char framing s) := by
  simp only [receiveChar]
  split
  · split <;> exact hs
  · split <;> exact hs
  · simp only [frameChar]
    split
    · exact hs
    · split
      · exact openWindow_storeSound _ _ decideVeto_busy hs
      · exact hs
  · exact hs

theorem countLongIdle_storeSound (hs : storeSound s) : storeSound (countLongIdle s) := by
  obtain ⟨hlen, hrun, hcount, hidles, hoff, hon⟩ := id hs
  unfold countLongIdle
  split
  · exact hs
  · split
    · next hmore => exact ⟨hlen, hrun, hcount, hmore, hoff, hon⟩
    · refine (?_ : storeSound (setHealth .active _))
      unfold storeSound
      rw [setHealth_store]
      exact ⟨hlen, hrun, Nat.zero_le _, by simp, fun h => by simp at h, fun _ => rfl⟩

theorem endTail_storeSound (marks : List Byte) (cut : Bool) (next : Receiver) (hs : storeSound s) :
    storeSound (endTail marks cut next s) :=
  storeSound_kept hs (by simp [endTail, fillClaim]) rfl rfl rfl rfl

/-! ### Every effect -/

theorem LineEffect.storeSound (h : LineEffect s u) (hs : storeSound s) : storeSound u := by
  cases h with
  | idle h | clearPulseEnd h | lineFaultClear h =>
    obtain ⟨-, rfl⟩ := occasion_eq_some.mp h
    exact hs
  | startEdge fresh h =>
    obtain ⟨-, rfl⟩ := occasion_eq_some.mp h
    (repeat' split) <;> exact storeSound_congr hs (by simp)
  | quietStart h =>
    obtain ⟨-, rfl⟩ := occasion_eq_some.mp h
    split <;> exact storeSound_congr hs (by simp)
  | longIdle h =>
    obtain ⟨-, rfl⟩ := occasion_eq_some.mp h
    exact countLongIdle_storeSound hs
  | character char framing h =>
    obtain ⟨-, rfl⟩ := occasion_eq_some.mp h
    exact receiveChar_storeSound char framing (storeSound_congr hs (by simp))
  | missingStart h =>
    unfold missingStartEffect at h
    split at h <;> cases h <;> exact openWindow_storeSound _ _ (by simp) hs
  | lost h =>
    obtain ⟨-, rfl⟩ := occasion_eq_some.mp h
    exact storeSound_congr hs (by simp)
  | disturbed h =>
    obtain ⟨-, rfl⟩ := occasion_eq_some.mp h
    refine storeSound_congr (s := addHealth Config.ownFailureCost _) (addHealth_storeSound _ ?_) (by simp; rfl)
    exact hs
  | verdict fh bh sd h =>
    unfold verdictEffect at h
    split at h
    · obtain ⟨-, rfl⟩ := occasion_eq_some.mp h
      split
      · exact hs
      · exact actVerdict_storeSound _ _ _ hs
    · cases h
  | heldVerdict h =>
    unfold heldVerdictEffect at h
    split at h
    · split at h
      · obtain ⟨-, rfl⟩ := occasion_eq_some.mp h
        exact actVerdict_storeSound _ _ _ hs
      · cases h
    · cases h
  | tailSlot char framing h =>
    unfold tailSlotEffect at h
    split at h
    · simp only at h
      split at h
      · cases h
        exact hs
      · split at h
        · cases h
          exact endTail_storeSound _ _ _ hs
        · split at h <;> cases h
          · exact endTail_storeSound _ _ _ hs
          · exact hs
    · cases h
  | tailEnd h =>
    unfold tailEndEffect at h
    split at h <;> cases h
    exact endTail_storeSound _ _ _ hs
  | clearPulse h =>
    obtain ⟨-, rfl⟩ := occasion_eq_some.mp h
    have hcleared : storeSound (clearOwn s) := storeSound_congr hs (by simp)
    split
    · exact storeSound_congr (endTail_storeSound _ true .waitIdle hcleared) rfl
    · exact hcleared
  | stuckLine h =>
    obtain ⟨-, rfl⟩ := occasion_eq_some.mp h
    exact storeSound_congr (addHealth_storeSound 1 (s := recordFault .stuck 0 0
      { s with line := { s.line with level := .stuck, fault := true } }) hs) (by simp)

/-! ### Turns of the round engine -/

/-- The receive store but for adrift. -/
def unadrift (t : Store) : Store := { t with adrift := false }

@[simp] theorem unadrift_with (t : Store) (adrift : Bool) : unadrift { t with adrift := adrift } = unadrift t := rfl

@[simp] theorem settleShow_unadrift (n : Nat) : unadrift (settleShow n s).store = unadrift s.store := by
  simp only [settleShow]
  split <;> simp [setAdrift_store]

@[simp] theorem openQuestion_unadrift : unadrift (openQuestion f s).store = unadrift s.store := by
  simp only [openQuestion]
  split <;> simp

@[simp] theorem catchUpDone_unadrift (expected received : List Station) :
    unadrift (catchUpDone expected received s).store = unadrift s.store := by
  simp [catchUpDone]

@[simp] theorem beginCatchUp_unadrift : unadrift (beginCatchUp f s).store = unadrift s.store := by
  simp only [beginCatchUp]
  split <;> simp

@[simp] theorem receiveTally_unadrift (st : Station) : unadrift (receiveTally st s).store = unadrift s.store := by
  simp only [receiveTally]
  (repeat' split) <;> simp

/-- Of the store no frame's dealing changes more than adrift. -/
theorem dealOf_unadrift (k : Kind) (f : RxEntry) (s : State) :
    unadrift (dealOf k f s).store = unadrift s.store := by
  have hquestion : ∀ deal : RxEntry → Question → State → State, (∀ q, (deal f q s).store = s.store) →
      unadrift (withQuestion deal f s).store = unadrift s.store := fun deal h =>
    withQuestion_keeps (P := fun t => unadrift t.store = unadrift s.store) (fun _ => rfl) fun q _ => by rw [h q]
  cases k with
  | newShow =>
    simp only [dealOf, dealShow]
    split <;> simp
  | openQ =>
    simp only [dealOf, dealOpen]
    split <;> simp
  | closeQ => exact hquestion (fun _ _ s => endQuestion s) fun _ => by simp
  | halt => exact hquestion haltQuestion fun _ => rfl
  | resume => exact hquestion resumeQuestion fun _ => rfl
  | verdict => exact hquestion dealVerdict fun _ => by simp
  | buzz => exact hquestion dealBuzz fun _ => by simp
  | answer => exact hquestion dealAnswer fun _ => by simp
  | reveal => exact hquestion dealReveal fun _ => by simp
  | roll =>
    simp only [dealOf, dealRoll]
    split <;> simp
  | hello =>
    simp only [dealOf, dealHello]
    (repeat' split) <;> simp
  | tally =>
    simp only [dealOf, dealTally]
    (repeat' split) <;> simp

theorem dealOf_storeSound (k : Kind) (hs : storeSound s) : storeSound (dealOf k f s) := by
  have h := dealOf_unadrift k f s
  simp only [unadrift, Store.mk.injEq] at h
  obtain ⟨hqueue, hrun, hcount, hhealth, hidles, -⟩ := h
  exact storeSound_kept hs (by rw [hqueue]) hrun hcount hidles hhealth

theorem releaseFront_storeSound (hs : storeSound s) : storeSound (releaseFront s) :=
  storeSound_kept hs (by simp) rfl rfl rfl rfl

theorem Effect.storeSound {c : Instr} (h : Effect c s u) (hs : storeSound s) : storeSound u := by
  cases h with
  | line h => exact h.storeSound hs
  | panel h => exact storeSound_congr hs (by simp_all [panelOnly, changesOnly])
  | timer h => exact storeSound_congr hs (by simp_all [timerOnly, changesOnly])
  | press seat p => exact storeSound_congr hs (by simp [pressOf])
  | expiry _ _ => exact hs
  | turn f _ _ _ =>
    exact turnOf_keeps (storeSound_congr hs (by simp)) (fun k t ht => dealOf_storeSound k ht)
      fun t ht => releaseFront_storeSound ht
  | pass q set _ _ _ =>
    refine releaseFront_storeSound (s := enterClosed (dropQuestion (recompute (sweep q set s)))) ?_
    exact storeSound_congr hs (by simp)
  | deadline => exact storeSound_congr hs (by simp)
  | watch => exact storeSound_congr hs (by simp)
  | link h =>
    have hframe := h.linkOnly
    exact storeSound_congr hs (by simp_all [linkOnly, changesOnly])

theorem storeSound_start (h : s.store = storeStart) : storeSound s := by
  simp [storeSound, h, storeStart, healthOf]

theorem step_storeSound : ∀ s t : State, storeSound s → step s = .next t → storeSound t :=
  step_keeps (fun _ _ h => h) (fun _ h => h) (fun _ _ _ h => h)
    (fun _ _ _ => storeSound_start rfl)
    fun _ _ _ _ h he => storeSound_congr ((effectOf_effect he).storeSound h) (by simp)

end Sys2Proof.Machine
end

section
/-! PROOFS. The own roster entry and the catch-up record stay as they must be at every step (R167, R171). -/

namespace Sys2Proof.Machine

open Sys2Proof.Safety

variable {s u : State} {f : RxEntry} {q : Question}

/-! ### What keeps the roster sound -/

/-- The states of a catch-up record and what each holds (R171). -/
def catchUpSound (c : CatchUp) : Prop :=
  (c.state = .none → c = catchUpNone) ∧ (c.state = .waiting → c.deadline.isSome) ∧ (c.state = .done → c.deadline = none)

theorem catchUpSound_none : catchUpSound catchUpNone := by
  simp [catchUpSound, catchUpNone]

theorem rosterSound_catchUp (hs : rosterSound s) : catchUpSound s.roster.catchUp := hs.2

theorem rosterSound_kept (hs : rosterSound s) (hstraps : u.straps = s.straps)
    (hown : rosterOf u s.straps.station = rosterOf s s.straps.station) (hcatch : catchUpSound u.roster.catchUp) :
    rosterSound u := by
  refine ⟨?_, hcatch⟩
  rw [hstraps, hown]
  exact hs.1

theorem rosterSound_congr (hs : rosterSound s) (hstraps : u.straps = s.straps) (hroster : u.roster = s.roster) :
    rosterSound u := by
  simpa [rosterSound, rosterOf, hstraps, hroster] using hs

/-- The entries stand, and the catch-up record is a sound one. -/
theorem rosterSound_entries (hs : rosterSound s) (hstraps : u.straps = s.straps)
    (hentries : u.roster.entries = s.roster.entries) (hcatch : catchUpSound u.roster.catchUp) : rosterSound u :=
  rosterSound_kept hs hstraps (by simp [rosterOf, hentries]) hcatch

theorem catchUpSound_of_endedOrKept (hs : rosterSound s) (h : catchUpEndedOrKept s u) :
    catchUpSound u.roster.catchUp := by
  rcases h with h | h <;> rw [h]
  · exact hs.2
  · exact catchUpSound_none

/-! ### Catch-up (R171 to R178) -/

theorem abandonCatchUp_catchUp (s : State) : catchUpEndedOrKept s (abandonCatchUp s) := by
  unfold abandonCatchUp
  split
  · exact .inr (by rw [setCatchUp_roster])
  · exact .inl rfl

theorem settleShow_catchUp (n : Nat) (s : State) : catchUpEndedOrKept s (settleShow n s) := by
  simp only [settleShow]
  split
  · exact .inr (by rw [setAdrift_roster])
  · exact .inl rfl

theorem openQuestion_catchUp (f : RxEntry) (s : State) : catchUpEndedOrKept s (openQuestion f s) := by
  simp only [openQuestion, catchUpEndedOrKept, raise_roster]
  generalize hshown : settleShow _ _ = shown
  have hkept : catchUpEndedOrKept s shown := by
    subst hshown
    split
    · simpa [catchUpEndedOrKept] using settleShow_catchUp (clampNumber (numAt f.body 0)) (dropQuestion s)
    · exact settleShow_catchUp _ _
  generalize hlast : clearSeats _ = last
  have hroster : last.roster = shown.roster := by subst hlast; simp
  rcases abandonCatchUp_catchUp last with h | h
  · rw [h, hroster]; exact hkept
  · exact .inr h

theorem catchUpDone_catchUp (expected received : List Station) (s : State) :
    (catchUpDone expected received s).roster.catchUp
      = { state := .done, expected := expected, received := received, deadline := none } := by
  simp [catchUpDone, setCatchUp_roster]

theorem catchUpDone_sound (expected received : List Station) (s : State) :
    catchUpSound (catchUpDone expected received s).roster.catchUp := by
  simp [catchUpSound, catchUpDone_catchUp]

theorem beginCatchUp_sound (f : RxEntry) (s : State) : catchUpSound (beginCatchUp f s).roster.catchUp := by
  simp only [beginCatchUp]
  split
  · exact catchUpDone_sound _ _ _
  · simp [catchUpSound, setCatchUp_roster]

theorem receiveTally_sound (st : Station) (hs : catchUpSound s.roster.catchUp) :
    catchUpSound (receiveTally st s).roster.catchUp := by
  simp only [receiveTally]
  split
  · exact hs
  · next hwaiting =>
    obtain ⟨-, hdeadline, -⟩ := hs
    have hstate : s.roster.catchUp.state = .waiting := by simpa using hwaiting
    generalize (if st = s.straps.station ∨ st ∈ s.roster.catchUp.received then s.roster.catchUp.received
      else s.roster.catchUp.received ++ [st]) = received
    split
    · exact catchUpDone_sound _ _ _
    · simpa [catchUpSound, setCatchUp_roster, hstate] using hdeadline hstate

@[simp] theorem adoptShow_roster (f : RxEntry) (s : State) : (adoptShow f s).roster = s.roster := by
  simp only [adoptShow]
  split <;> simp

/-! ### The frames that the engine deals with -/

theorem setPresent_rosterSound (st : Station) (hs : rosterSound s) : rosterSound (setPresent st s) :=
  rosterSound_kept hs (by simp) (rosterOf_setPresent_own s st) (by rw [setPresent_catchUp]; exact hs.2)

theorem rosterOf_setCode_own (st : Station) (code : Role) (s : State) :
    rosterOf (setCode st code s) s.straps.station = rosterOf s s.straps.station := by
  by_cases hst : st = s.straps.station
  · rw [hst, setCode_own]
  · rw [rosterOf_setCode s hst, if_neg hst]

theorem setCode_rosterSound (st : Station) (code : Role) (hs : rosterSound s) : rosterSound (setCode st code s) :=
  rosterSound_kept hs (by simp) (rosterOf_setCode_own st code s) (by rw [(setCode_keeps s st code).1]; exact hs.2)

theorem hearFrame_rosterSound (f : RxEntry) (hs : rosterSound s) : rosterSound (hearFrame f s) := by
  simp only [hearFrame]
  split
  · exact setCode_rosterSound _ _ (setPresent_rosterSound _ hs)
  · exact setPresent_rosterSound _ hs

theorem census_rosterSound (f : RxEntry) (hs : rosterSound s) : rosterSound (census f s) :=
  rosterSound_kept hs (by simp) (rosterOf_census_own s f) (by rw [(census_keeps s f).1]; exact hs.2)

theorem dealHello_rosterSound (f : RxEntry) (hs : rosterSound s) : rosterSound (dealHello f s) := by
  have hcounted := census_rosterSound f hs
  simp only [dealHello]
  split
  · split
    · exact rosterSound_entries hcounted (by simp) (by simp) (beginCatchUp_sound f _)
    · exact hcounted
  · split
    · exact hcounted
    · exact rosterSound_congr hcounted (by simp) (by simp)

theorem dealTally_rosterSound (f : RxEntry) (hs : rosterSound s) : rosterSound (dealTally f s) := by
  simp only [dealTally]
  split
  · exact hs
  · have hknown : (if s.engine.showNo = 0 then adoptShow f s else s).roster = s.roster := by split <;> simp
    refine rosterSound_entries hs (by simp; split <;> simp) (by simp [hknown]) (receiveTally_sound _ ?_)
    simpa [hknown] using rosterSound_catchUp hs

theorem dealOf_rosterSound (k : Kind) (hs : rosterSound s) : rosterSound (dealOf k f s) := by
  have hquestion : ∀ deal : RxEntry → Question → State → State,
      (∀ q, (deal f q s).straps = s.straps ∧ (deal f q s).roster = s.roster) → rosterSound (withQuestion deal f s) :=
    fun deal h => withQuestion_keeps (fun _ => hs) fun q _ => rosterSound_congr hs (h q).1 (h q).2
  cases k with
  | newShow =>
    have hroster : (dealShow f s).roster = { s.roster with catchUp := catchUpNone } := by
      simp only [dealShow]
      split <;> simp [setCatchUp_roster]
    refine rosterSound_entries hs (by simp [dealOf]) (by simp [dealOf, hroster]) ?_
    simp only [dealOf, hroster]
    exact catchUpSound_none
  | openQ =>
    simp only [dealOf, dealOpen]
    split
    · exact hs
    · exact rosterSound_entries hs (by simp) (by simp) (catchUpSound_of_endedOrKept hs (openQuestion_catchUp f s))
  | closeQ => exact hquestion (fun _ _ s => endQuestion s) fun _ => by simp
  | halt => exact hquestion haltQuestion fun _ => by simp
  | resume => exact hquestion resumeQuestion fun _ => by simp
  | verdict => exact hquestion dealVerdict fun _ => by simp
  | buzz => exact hquestion dealBuzz fun _ => by simp
  | answer => exact hquestion dealAnswer fun _ => by simp
  | reveal => exact hquestion dealReveal fun _ => by simp
  | roll =>
    simp only [dealOf, dealRoll]
    split
    · exact hs
    · exact census_rosterSound f hs
  | hello => exact dealHello_rosterSound f hs
  | tally => exact dealTally_rosterSound f hs

/-! ### Every step -/

theorem Effect.rosterSound {c : Instr} (h : Effect c s u) (hs : rosterSound s) : rosterSound u := by
  cases h with
  | line h =>
    obtain ⟨hframe, hentries, -, hcatch⟩ := h.lineOnly
    exact rosterSound_entries hs hframe.2.1 hentries (catchUpSound_of_endedOrKept hs hcatch)
  | panel h => exact rosterSound_congr hs (by simp_all [panelOnly, changesOnly]) (by simp_all [panelOnly, changesOnly])
  | timer h => exact rosterSound_congr hs (by simp_all [timerOnly, changesOnly]) (by simp_all [timerOnly, changesOnly])
  | press seat p => exact rosterSound_congr hs (by simp [pressOf]) (by simp [pressOf])
  | expiry _ _ => exact hs
  | turn f _ _ _ =>
    exact turnOf_keeps (hearFrame_rosterSound f hs) (fun k t ht => dealOf_rosterSound k ht) fun t ht => ht
  | pass q set _ _ _ => exact rosterSound_congr hs (by simp [passCompleted]) (by simp [passCompleted])
  | deadline =>
    exact rosterSound_entries hs (by simp) (by simp) (catchUpSound_of_endedOrKept hs (abandonCatchUp_catchUp s))
  | watch => exact rosterSound_entries hs (by simp) (by simp) (by simpa using rosterSound_catchUp hs)
  | link h =>
    have hframe := h.linkOnly
    exact rosterSound_congr hs (by simp_all [linkOnly, changesOnly]) (by simp_all [linkOnly, changesOnly])

theorem latchAndStart_rosterSound (power : Power) (pins : StrapPins) (s : State) :
    rosterSound (latchAndStart power pins s) := by
  refine ⟨?_, catchUpSound_none⟩
  have hown := rosterOf_startWith (latchStraps pins) s.pending (latchStraps pins).station
  rw [if_pos rfl] at hown
  exact hown

theorem step_rosterSound : ∀ s t : State, rosterSound s → step s = .next t → rosterSound t :=
  step_keeps (fun _ _ h => h) (fun _ h => h) (fun _ _ _ h => h) (fun s power pins => latchAndStart_rosterSound power pins s)
    fun _ _ _ _ h he => rosterSound_congr ((effectOf_effect he).rosterSound h) (by simp) (by simp)

end Sys2Proof.Machine
end

section
/-! PROOFS. The transmit queue stays in key order, in its capacity, below the retry limit and with at most one entry in
flight (R41, R43, R50). -/

namespace Sys2Proof.Machine

open Sys2Proof.Safety

variable {s u : State} {f : RxEntry} {q : Question} {e : TxEntry} {l : List TxEntry}

/-! ### Queues of entries -/

/-- What a sound transmit queue is (R41, R43, R50). -/
def queueFits (l : List TxEntry) : Prop :=
  l.length ≤ 12 ∧ l.Pairwise (fun a b => a.key ≤ b.key) ∧ (∀ e ∈ l, e.retry ≤ 15) ∧ (l.filter (·.inFlight)).length ≤ 1

theorem queueSound_iff : queueSound s ↔ queueFits s.sched.queue := Iff.rfl

theorem insertByKey_perm (e : TxEntry) (l : List TxEntry) : (insertByKey e l).Perm (e :: l) := by
  induction l with
  | nil => exact .refl _
  | cons h t ih =>
    unfold insertByKey
    split
    · exact .refl _
    · exact (ih.cons h).trans (.swap e h t)

theorem mem_insertByKey {x : TxEntry} : x ∈ insertByKey e l ↔ x = e ∨ x ∈ l := by
  rw [(insertByKey_perm e l).mem_iff, List.mem_cons]

theorem length_insertByKey (e : TxEntry) (l : List TxEntry) : (insertByKey e l).length = l.length + 1 :=
  (insertByKey_perm e l).length_eq

/-- Into ascending key order, after the entries of an equal key (R41). -/
theorem insertByKey_eq (e : TxEntry) {l : List TxEntry} (hl : l.Pairwise fun a b => a.key ≤ b.key) :
    insertByKey e l
      = l.filter (fun x => decide (x.key ≤ e.key)) ++ e :: l.filter fun x => decide (e.key < x.key) := by
  induction l with
  | nil => rfl
  | cons h t ih =>
    obtain ⟨hfirst, hrest⟩ := List.pairwise_cons.mp hl
    unfold insertByKey
    split
    · next hlt =>
      have hafter : ∀ x ∈ h :: t, e.key < x.key := fun x hx => by
        rcases List.mem_cons.mp hx with rfl | hx
        · exact hlt
        · exact Nat.lt_of_lt_of_le hlt (hfirst x hx)
      rw [List.filter_eq_nil_iff.mpr fun x hx => by simpa using hafter x hx,
        List.filter_eq_self.mpr fun x hx => by simpa using hafter x hx]
      rfl
    · next hge =>
      have hle : h.key ≤ e.key := BitVec.not_lt.mp hge
      rw [ih hrest, List.filter_cons_of_pos (by simpa using hle), List.filter_cons_of_neg (by simpa using hle)]
      rfl

theorem insertByKey_ascending (hl : l.Pairwise fun a b => a.key ≤ b.key) :
    (insertByKey e l).Pairwise fun a b => a.key ≤ b.key := by
  rw [insertByKey_eq e hl, List.pairwise_append, List.pairwise_cons]
  refine ⟨hl.filter _, ⟨fun x hx => ?after, hl.filter _⟩, fun x hx y hy => ?across⟩
  case after => exact BitVec.le_of_lt (by simpa using (List.mem_filter.mp hx).2)
  case across =>
    have hxe : x.key ≤ e.key := by simpa using (List.mem_filter.mp hx).2
    rcases List.mem_cons.mp hy with rfl | hy
    · exact hxe
    · exact BitVec.le_trans hxe (BitVec.le_of_lt (by simpa using (List.mem_filter.mp hy).2))

theorem insertByKey_fits (hlen : l.length < 12) (hl : queueFits l) (hretry : e.retry ≤ 15)
    (hflight : e.inFlight = true → l.filter (·.inFlight) = []) : queueFits (insertByKey e l) := by
  obtain ⟨-, hkeys, hretries, hone⟩ := hl
  refine ⟨by rw [length_insertByKey]; omega, insertByKey_ascending hkeys, fun x hx => ?_, ?_⟩
  · rcases mem_insertByKey.mp hx with rfl | hx
    · exact hretry
    · exact hretries x hx
  · rw [((insertByKey_perm e l).filter _).length_eq, List.filter_cons]
    split
    · next h => simp [hflight h]
    · exact hone

/-- Entries that leave, or change in what the condition does not speak of, leave a sound queue sound. -/
theorem filterMap_fits {g : TxEntry → Option TxEntry} (hkey : ∀ a b, g a = some b → b.key = a.key)
    (hretry : ∀ a b, a ∈ l → g a = some b → b.retry ≤ 15)
    (hflight : ∀ a b, g a = some b → b.inFlight = true → a.inFlight = true) (hl : queueFits l) :
    queueFits (l.filterMap g) := by
  obtain ⟨hlen, hkeys, hretries, hone⟩ := hl
  refine ⟨(List.length_filterMap_le g l).trans hlen, ?keys, fun b hb => ?retries, le_trans ?one hone⟩
  case keys =>
    refine List.pairwise_filterMap.mpr (hkeys.imp fun {a a'} hab b hb b' hb' => ?_)
    rw [hkey a b hb, hkey a' b' hb']
    exact hab
  case retries =>
    obtain ⟨a, ha, hb⟩ := List.mem_filterMap.mp hb
    exact hretry a b ha hb
  case one =>
    clear hlen hkeys hretries hone hretry
    induction l with
    | nil => exact le_refl _
    | cons a l ih =>
      cases hg : g a with
      | none =>
        rw [List.filterMap_cons_none hg, List.filter_cons]
        split
        · exact ih.trans (Nat.le_succ _)
        · exact ih
      | some b =>
        rw [List.filterMap_cons_some hg, List.filter_cons, List.filter_cons]
        by_cases hb : b.inFlight = true
        · simpa [hb, hflight a b hg hb] using ih
        · rw [if_neg hb]
          split
          · exact ih.trans (Nat.le_succ _)
          · exact ih

theorem filter_fits (p : TxEntry → Bool) (hl : queueFits l) : queueFits (l.filter p) := by
  obtain ⟨hlen, hkeys, hretries, hone⟩ := hl
  exact ⟨(List.length_filter_le p l).trans hlen, hkeys.filter p, fun e he => hretries e (List.mem_of_mem_filter he),
    le_trans (by rw [List.filter_filter, ← List.filter_filter, List.filter_comm]; exact List.length_filter_le _ _) hone⟩

theorem map_fits {g : TxEntry → TxEntry} (hkey : ∀ a, (g a).key = a.key) (hretry : ∀ a ∈ l, (g a).retry ≤ 15)
    (hflight : ∀ a, (g a).inFlight = true → a.inFlight = true) (hl : queueFits l) : queueFits (l.map g) := by
  rw [← List.filterMap_eq_map]
  exact filterMap_fits (fun a b h => by cases h; exact hkey a) (fun a b ha h => by cases h; exact hretry a ha)
    (fun a b h hb => by cases h; exact hflight a hb) hl

theorem condemned_fits (p : TxEntry → Bool) (hl : queueFits l) : queueFits (condemned p l) := by
  refine filterMap_fits (fun a b h => ?_) (fun a b ha h => ?_) (fun a b h hb => ?_) hl
  all_goals
    have hcases : b = a ∨ b = { a with discard := true } := by
      (repeat' split at h) <;> simp_all
    rcases hcases with rfl | rfl
  · rfl
  · rfl
  · exact hl.2.2.1 _ ha
  · exact hl.2.2.1 a ha
  · exact hb
  · exact hb

/-! ### Placements (R42) -/

theorem place_queueSound (hs : queueSound s) (hretry : e.retry ≤ 15) (hflight : e.inFlight = false) :
    queueSound (place e s) := by
  by_cases hroom : s.sched.queue.length < Config.transmitPlaces
  · rw [place_room s e hroom]
    exact insertByKey_fits hroom hs hretry (by simp [hflight])
  · rw [place_full s e (Nat.le_of_not_lt hroom)]
    exact hs

theorem requestHello_queueSound (hs : queueSound s) : queueSound (requestHello s) := by
  unfold requestHello
  split
  · exact hs
  · exact place_queueSound hs (Nat.zero_le _) rfl

theorem requestTally_queueSound (hs : queueSound s) : queueSound (requestTally s) := by
  unfold requestTally
  split
  · exact hs
  · exact place_queueSound hs (Nat.zero_le _) rfl

theorem helloOccasion_queueSound (hs : queueSound s) : queueSound (helloOccasion s) := by
  unfold helloOccasion
  split
  · exact requestHello_queueSound hs
  · exact hs

/-- The entry found by a test and taken out with all that satisfy it: one entry fewer, and none in flight beside it. -/
theorem found_taken_out {p : TxEntry → Bool} (hl : queueFits l) (h : l.find? p = some e) :
    (l.filter fun x => !p x).length < 12
      ∧ (e.inFlight = true → (l.filter fun x => !p x).filter (·.inFlight) = []) ∧ e.retry ≤ 15 := by
  obtain ⟨hlen, -, hretries, hone⟩ := hl
  obtain ⟨hp, front, back, rfl, -⟩ := List.find?_eq_some_iff_append.mp h
  have hfront := List.length_filter_le (fun x => !p x) front
  have hback := List.length_filter_le (fun x => !p x) back
  refine ⟨?len, fun hflight => ?none, hretries e (by simp)⟩
  case len =>
    simp only [List.length_append, List.length_cons, List.filter_append, List.filter_cons, hp, Bool.not_true,
      Bool.false_eq_true, if_false] at hlen ⊢
    omega
  case none =>
    simp only [List.filter_append, List.filter_cons, hflight, if_true, List.length_append, List.length_cons] at hone
    have hnone : ∀ x ∈ front ++ back, x.inFlight = false := by
      intro x hx
      have hf : front.filter (·.inFlight) = [] := List.eq_nil_of_length_eq_zero (by omega)
      have hb : back.filter (·.inFlight) = [] := List.eq_nil_of_length_eq_zero (by omega)
      rcases List.mem_append.mp hx with hx | hx
      · simpa using List.filter_eq_nil_iff.mp hf x hx
      · simpa using List.filter_eq_nil_iff.mp hb x hx
    refine List.filter_eq_nil_iff.mpr fun x hx => ?_
    obtain ⟨hx, hnp⟩ := List.mem_filter.mp hx
    have hmem : x ∈ front ++ back := by
      rcases List.mem_append.mp hx with hx | hx
      · exact List.mem_append_left _ hx
      · rcases List.mem_cons.mp hx with rfl | hx
        · simp [hp] at hnp
        · exact List.mem_append_right _ hx
    simp [hnone x hmem]

theorem refreshAnswer_queueSound (question : Nat) (hs : queueSound s) : queueSound (refreshAnswer question s) := by
  unfold refreshAnswer
  simp only
  split
  · exact filter_fits _ hs
  · next e _ _ hfound =>
    obtain ⟨hlen, hflight, hretry⟩ := found_taken_out hs hfound
    exact insertByKey_fits hlen (filter_fits _ hs) hretry hflight
  · exact place_queueSound hs (Nat.zero_le _) rfl

theorem recordAnswer_queueSound (seat : Seat) (c : Choice) (t question : Nat) (hs : queueSound s) :
    queueSound (recordAnswer seat c t question s) :=
  refreshAnswer_queueSound question hs

/-! ### Outcomes and purges (R47 to R56) -/

theorem withoutFlight_fits (hs : queueSound s) : queueFits (withoutFlight s) := filter_fits _ hs

theorem landed_fits {g : TxEntry → TxEntry} (hkey : ∀ a, (g a).key = a.key)
    (hretry : ∀ a ∈ s.sched.queue, a.inFlight = true → (g a).retry ≤ 15) (hs : queueSound s) :
    queueFits (landed g s) := by
  refine map_fits (fun a => ?_) (fun a ha => ?_) (fun a => ?_) hs
  · split
    · exact hkey a
    · rfl
  · split
    · next hf => exact hretry a ha hf
    · exact hs.2.2.1 a ha
  · split
    · simp
    · exact id

/-- In a sound queue the entry in flight is the only one. -/
theorem inFlight_unique (hs : queueSound s) (h : inFlight? s = some e) :
    ∀ x ∈ s.sched.queue, x.inFlight = true → x = e := by
  intro x hx hflight
  have hmem : e ∈ s.sched.queue.filter (·.inFlight) :=
    List.mem_filter.mpr ⟨List.mem_of_find?_eq_some h, List.find?_some h⟩
  have hxmem : x ∈ s.sched.queue.filter (·.inFlight) := List.mem_filter.mpr ⟨hx, hflight⟩
  obtain ⟨y, hy⟩ := List.length_eq_one_iff.mp (Nat.le_antisymm hs.2.2.2 (List.length_pos_of_mem hmem))
  rw [hy, List.mem_singleton] at hmem hxmem
  rw [hxmem, hmem]

theorem delivered_queueSound (hs : queueSound s) : queueSound (delivered s) := by
  unfold delivered
  split
  · exact hs
  · have hleft : queueSound (dropBody (setQueue (withoutFlight s) s)) := withoutFlight_fits hs
    simp only
    split
    · exact refreshAnswer_queueSound _ hleft
    · exact hleft

theorem returned_queueSound (hs : queueSound s) : queueSound (returned s) := by
  unfold returned
  split
  · exact hs
  · split
    · exact withoutFlight_fits hs
    · exact landed_fits (fun _ => rfl) (fun a ha _ => hs.2.2.1 a ha) hs

theorem failed_queueSound (hs : queueSound s) : queueSound (failed s) := by
  unfold failed
  split
  · exact hs
  · next e he =>
    split
    · exact withoutFlight_fits hs
    · split
      · exact withoutFlight_fits hs
      · next hlimit =>
        refine landed_fits (fun _ => rfl) (fun a ha hflight => ?_) hs
        simp only [Config.retryLimit] at hlimit
        rw [inFlight_unique hs he a ha hflight]
        simp only
        omega

theorem purge_queueSound (p : TxEntry → Bool) (hs : queueSound s) : queueSound (purge p s) := condemned_fits p hs

theorem questionChanged_queueSound (n : Option Nat) (hs : queueSound s) : queueSound (questionChanged n s) :=
  purge_queueSound _ hs

theorem showPurge_queueSound (hs : queueSound s) : queueSound (showPurge s) :=
  purge_queueSound _ (questionChanged_queueSound none hs)

/-! ### A frame begins (R43) -/

/-- What marking the first entry that satisfies a test makes of a queue. -/
theorem launch_cases (p : TxEntry → Bool) (l : List TxEntry) :
    (launch p l = l ∧ l.find? p = none)
      ∨ ∃ front e back, l = front ++ e :: back ∧ l.find? p = some e ∧ (∀ x ∈ front, p x = false)
          ∧ launch p l = front ++ { e with inFlight := true } :: back := by
  induction l with
  | nil => exact .inl ⟨rfl, rfl⟩
  | cons h t ih =>
    unfold launch
    cases hp : p h with
    | true => exact .inr ⟨[], h, t, rfl, by simp [hp], by simp, by simp⟩
    | false =>
      rcases ih with ⟨hl, hn⟩ | ⟨front, e, back, ht, hf, hfront, hl⟩
      · exact .inl ⟨by simp [hl], by simp [hp, hn]⟩
      · exact .inr ⟨h :: front, e, back, by simp [ht], by simp [hp, hf], by simpa [hp] using hfront, by simp [hl]⟩

theorem inFlight_eq_none : inFlight? s = none ↔ ∀ x ∈ s.sched.queue, x.inFlight = false := by
  simp [inFlight?]

theorem offered_some (h : offered s = some e) :
    inFlight? s = none ∧ s.sched.queue.find? (eligible s) = some e := by
  unfold offered at h
  split at h
  · cases h
  · next hnone => exact ⟨by simpa using hnone, h⟩

theorem startFrame_queueSound (hs : queueSound s) (h : offered s = some e) : queueSound (startFrame e s) := by
  obtain ⟨hnone, hfound⟩ := offered_some h
  have hfree := inFlight_eq_none.mp hnone
  rcases launch_cases (eligible s) s.sched.queue with ⟨hl, -⟩ | ⟨front, x, back, hq, -, -, hl⟩
  · exact queueSound_iff.mpr (by simpa [startFrame, hl] using queueSound_iff.mp hs)
  · obtain ⟨hlen, hkeys, hretries, -⟩ := hs
    rw [hq] at hlen hkeys hretries hfree
    refine queueSound_iff.mpr ?_
    change queueFits (launch (eligible s) s.sched.queue)
    rw [hl]
    refine ⟨by simpa using hlen, by simpa [List.pairwise_append] using hkeys, fun y hy => ?_, ?_⟩
    · rcases List.mem_append.mp hy with hy | hy
      · exact hretries y (by simp [hy])
      · rcases List.mem_cons.mp hy with rfl | hy
        · exact hretries x (by simp)
        · exact hretries y (by simp [hy])
    · have hfront : front.filter (·.inFlight) = [] :=
        List.filter_eq_nil_iff.mpr fun y hy => by simp [hfree y (by simp [hy])]
      have hback : back.filter (·.inFlight) = [] :=
        List.filter_eq_nil_iff.mpr fun y hy => by simp [hfree y (by simp [hy])]
      simp [hfront, hback]

theorem settle_queueSound (hs : queueSound s) : queueSound (settle s) := by
  have hsched : (settle s).sched = (settleTx s).sched := by simp [settle]
  have hline : queueSound (settleTx s) := by
    unfold settleTx
    split
    case h_4 => exact hs
    all_goals
      split
      · exact hs
      · split
        · split
          · exact hs
          · next he =>
            split
            · exact hs
            · exact startFrame_queueSound hs he
        · exact hs
  exact queueSound_iff.mpr (hsched ▸ hline)

/-! ### Every effect -/

theorem queueSound_congr (hs : queueSound s) (h : u.sched = s.sched) : queueSound u := by
  simpa [queueSound, h] using hs

theorem actVerdict_queueSound (v : Verdict) (w : Window) (stamp : Stamp) (hs : queueSound s) :
    queueSound (actVerdict v w stamp s) := by
  have hreported : queueSound (if awaitsVerdict s then ownOutcome v s else s) := by
    split
    · cases v with
      | taken => exact delivered_queueSound hs
      | faultVetoed =>
        exact failed_queueSound (s := addHealth Config.ownFailureCost s) (queueSound_congr hs (by simp))
      | busyVetoed => exact failed_queueSound hs
    · exact hs
  simp only [actVerdict]
  refine queueSound_congr hreported ?_
  (repeat' split) <;> simp

theorem clearPulse_queueSound (h : clearPulseEffect s = some u) (hs : queueSound s) : queueSound u := by
  obtain ⟨-, rfl⟩ := occasion_eq_some.mp h
  have hcleared : queueSound (clearOwn s) := returned_queueSound hs
  split
  · exact queueSound_congr hcleared (by simp)
  · exact hcleared

theorem LineEffect.queueSound (h : LineEffect s u) (hs : queueSound s) : queueSound u := by
  cases h with
  | idle h | clearPulseEnd h | lineFaultClear h =>
    obtain ⟨-, rfl⟩ := occasion_eq_some.mp h
    exact hs
  | startEdge fresh h =>
    obtain ⟨-, rfl⟩ := occasion_eq_some.mp h
    split
    · split
      · next e he =>
        exact startFrame_queueSound (queueSound_congr hs (by simp))
          ((offered_congr (by simp) (by simp) (by simp)).trans he)
      · exact queueSound_congr hs (by simp)
    · exact queueSound_congr hs (by simp)
  | quietStart h =>
    obtain ⟨-, rfl⟩ := occasion_eq_some.mp h
    split
    · next he => exact startFrame_queueSound hs he
    · exact hs
  | longIdle h =>
    obtain ⟨-, rfl⟩ := occasion_eq_some.mp h
    exact queueSound_congr hs (by simp)
  | character char framing h =>
    obtain ⟨-, rfl⟩ := occasion_eq_some.mp h
    exact queueSound_congr hs (by simp)
  | missingStart h =>
    unfold missingStartEffect at h
    split at h <;> cases h <;> exact hs
  | lost h =>
    obtain ⟨-, rfl⟩ := occasion_eq_some.mp h
    exact returned_queueSound hs
  | disturbed h =>
    obtain ⟨-, rfl⟩ := occasion_eq_some.mp h
    exact queueSound_congr (failed_queueSound (s := addHealth Config.ownFailureCost
      (recordFault .disturbed (sendingPosition s) (keyReadBack s) s)) (queueSound_congr hs (by simp))) rfl
  | verdict fh bh sd h =>
    unfold verdictEffect at h
    split at h
    · obtain ⟨-, rfl⟩ := occasion_eq_some.mp h
      split
      · exact hs
      · exact actVerdict_queueSound _ _ _ hs
    · cases h
  | heldVerdict h =>
    unfold heldVerdictEffect at h
    split at h
    · split at h
      · obtain ⟨-, rfl⟩ := occasion_eq_some.mp h
        exact actVerdict_queueSound _ _ _ hs
      · cases h
    · cases h
  | tailSlot char framing h =>
    unfold tailSlotEffect at h
    split at h
    · simp only at h
      (repeat' split at h) <;> cases h <;> exact queueSound_congr hs (by simp)
    · cases h
  | tailEnd h =>
    unfold tailEndEffect at h
    split at h <;> cases h
    exact queueSound_congr hs (by simp)
  | clearPulse h => exact clearPulse_queueSound h hs
  | stuckLine h =>
    obtain ⟨-, rfl⟩ := occasion_eq_some.mp h
    exact queueSound_congr hs (by simp)

theorem endQuestion_queueSound (hs : queueSound s) : queueSound (endQuestion s) := by
  refine helloOccasion_queueSound (queueSound_congr (s := questionChanged none (dropQuestion s)) ?_ rfl)
  exact questionChanged_queueSound none (queueSound_congr hs (by simp))

theorem dealShow_queueSound (f : RxEntry) (hs : queueSound s) : queueSound (dealShow f s) := by
  simp only [dealShow]
  generalize hclosed : setEngine (fun g => { g with state := .closed }) _ = closed
  have hcloses : queueSound closed := queueSound_congr hs (by subst hclosed; split <;> simp)
  exact helloOccasion_queueSound (queueSound_congr (showPurge_queueSound hcloses) (by simp))

theorem openQuestion_queueSound (f : RxEntry) (hs : queueSound s) : queueSound (openQuestion f s) := by
  simp only [openQuestion]
  generalize hstarted : setTimer _ _ = started
  have hstarts : queueSound started := queueSound_congr hs (by subst hstarted; split <;> simp)
  exact queueSound_congr (questionChanged_queueSound (some (questionRecord f).number) hstarts) (by simp)

theorem dealVerdict_queueSound (f : RxEntry) (q : Question) (hs : queueSound s) : queueSound (dealVerdict f q s) := by
  unfold dealVerdict
  split
  · split
    · split
      · exact endQuestion_queueSound (queueSound_congr hs (by split <;> simp))
      · exact purge_queueSound _ (queueSound_congr hs (by simp))
      · exact queueSound_congr hs (by simp)
    · exact hs
  · exact hs

theorem dealReveal_queueSound (f : RxEntry) (q : Question) (hs : queueSound s) : queueSound (dealReveal f q s) := by
  simp only [dealReveal]
  split
  · exact endQuestion_queueSound hs
  · exact questionChanged_queueSound none (queueSound_congr hs (by simp))

theorem dealHello_queueSound (f : RxEntry) (hs : queueSound s) : queueSound (dealHello f s) := by
  have hcounted : queueSound (census f s) := queueSound_congr hs (by simp)
  simp only [dealHello]
  split
  · split
    · exact queueSound_congr hcounted (by simp)
    · exact hcounted
  · split
    · exact hcounted
    · exact requestTally_queueSound hcounted

theorem adoptShow_queueSound (f : RxEntry) (hs : queueSound s) : queueSound (adoptShow f s) := by
  simp only [adoptShow]
  split
  · exact helloOccasion_queueSound hs
  · exact hs

theorem dealTally_queueSound (f : RxEntry) (hs : queueSound s) : queueSound (dealTally f s) := by
  simp only [dealTally]
  split
  · exact hs
  · have hknown : queueSound (if s.engine.showNo = 0 then adoptShow f s else s) := by
      split
      · exact adoptShow_queueSound f hs
      · exact hs
    exact queueSound_congr hknown (by simp)

theorem dealOf_queueSound (k : Kind) (hs : queueSound s) : queueSound (dealOf k f s) := by
  cases k with
  | newShow => exact dealShow_queueSound f hs
  | openQ =>
    simp only [dealOf, dealOpen]
    split
    · exact hs
    · exact openQuestion_queueSound f hs
  | closeQ =>
    exact withQuestion_keeps (deal := fun _ _ s => endQuestion s) (fun _ => hs) fun _ _ => endQuestion_queueSound hs
  | halt => exact withQuestion_keeps (deal := haltQuestion) (fun _ => hs) fun _ _ => hs
  | resume => exact withQuestion_keeps (deal := resumeQuestion) (fun _ => hs) fun _ _ => hs
  | verdict => exact withQuestion_keeps (fun _ => hs) fun q _ => dealVerdict_queueSound f q hs
  | buzz => exact withQuestion_keeps (fun _ => hs) fun _ _ => queueSound_congr hs (by simp)
  | answer => exact withQuestion_keeps (fun _ => hs) fun _ _ => queueSound_congr hs (by simp)
  | reveal => exact withQuestion_keeps (fun _ => hs) fun q _ => dealReveal_queueSound f q hs
  | roll => exact queueSound_congr hs (by simp [dealOf])
  | hello => exact dealHello_queueSound f hs
  | tally => exact dealTally_queueSound f hs

theorem pressOf_queueSound (seat : Seat) (p : Press) (hs : queueSound s) : queueSound (pressOf seat p s) := by
  have hdropped : queueSound (dropPress seat s) := queueSound_congr hs (by simp)
  have hflash : queueSound (flashSeat seat (dropPress seat s)) := queueSound_congr hdropped (by simp)
  unfold pressOf judgePress
  split
  · split
    · exact hflash
    · split
      · simp only [judgeBuzzPress]
        split
        · exact hflash
        · exact place_queueSound hdropped (Nat.zero_le _) rfl
      · simp only [judgeChoicePress]
        split
        · exact hflash
        · exact recordAnswer_queueSound _ _ _ _ hdropped
  · exact hflash

theorem Obeyed.queueSound (h : Obeyed s u) (hs : queueSound s) : queueSound u := by
  cases h with
  | placed e hretry hflight _ => exact place_queueSound hs (by omega) hflight
  | _ => exact hs

theorem recordDone_queueSound (kind : Byte) (c : Option Command) (hs : queueSound s) :
    queueSound (recordDone kind c s) := by
  unfold recordDone
  split
  · exact hs
  · exact (rule_obeyed c s).queueSound hs

theorem recvByte_queueSound (b : LinkByte) (hs : queueSound s) : queueSound (recvByte s b) := by
  simp only [recvByte]
  split
  · exact settle_queueSound (recordDone_queueSound _ _ hs)
  · exact hs

theorem LinkEffect.queueSound (h : LinkEffect s u) (hs : queueSound s) : queueSound u := by
  cases h with
  | abandoned bytes => exact foldl_holds (fun _ b ht => recvByte_queueSound b ht) bytes s hs
  | done kind c => exact recordDone_queueSound kind c hs
  | _ => exact hs

theorem Effect.queueSound {c : Instr} (h : Effect c s u) (hs : queueSound s) : queueSound u := by
  cases h with
  | line h => exact h.queueSound hs
  | panel h => exact queueSound_congr hs (by simp_all [panelOnly, changesOnly])
  | timer h => exact queueSound_congr hs (by simp_all [timerOnly, changesOnly])
  | press seat p => exact pressOf_queueSound seat p hs
  | expiry _ _ => exact hs
  | turn f _ _ _ =>
    exact turnOf_keeps (queueSound_congr hs (by simp)) (fun k t ht => dealOf_queueSound k ht) fun t ht => ht
  | pass q set _ _ _ =>
    exact helloOccasion_queueSound (queueSound_congr hs (by simp) : queueSound (raise .round _))
  | deadline => exact queueSound_congr hs (by simp)
  | watch => exact requestHello_queueSound hs
  | link h => exact h.queueSound hs

theorem queueSound_start (h : s.sched.queue = []) : queueSound s := by
  simp [queueSound, h]

theorem step_queueSound : ∀ s t : State, queueSound s → step s = .next t → queueSound t :=
  step_keeps (fun _ _ h => h) (fun _ h => h) (fun _ _ _ h => h) (fun _ _ _ => queueSound_start rfl)
    fun _ _ _ _ h he => settle_queueSound ((effectOf_effect he).queueSound h)

end Sys2Proof.Machine
end

section

open Sys2Proof.Machine

/-- Settles O59: each of the three conditions is kept by every effect on its own; a busy veto is decided only below its
limit, the own entry is never replaced, and an entry starts only where none is in flight. -/
theorem everyStepKeepsStoreRosterAndQueueSound : Obligations.EveryStepKeepsStoreRosterAndQueueSound :=
  fun s t h => ⟨fun hs => step_storeSound s t hs h, fun hs => step_rosterSound s t hs h,
    fun hs => step_queueSound s t hs h⟩

end

section
/-! PROOFS. The machine: what a command leaves, what starts and what stops (R78, R180, R181). -/

namespace Sys2Proof.Machine

open Sys2Proof.Safety

variable {s t u : State}

/-! ### What no command but those of the pins moves -/

/-- The strap latch and the waiting commands are as they were. -/
def latchKept (s u : State) : Prop := u.straps = s.straps ∧ u.pending = s.pending

theorem latchKept_trans (h : latchKept s t) (h' : latchKept t u) : latchKept s u :=
  ⟨h'.1.trans h.1, h'.2.trans h.2⟩

theorem latchKept_of_changesOnly {blocks : List Block} (h : changesOnly blocks s u) : latchKept s u :=
  ⟨h.2.1, h.2.2.1⟩

theorem settle_latchKept (s : State) : latchKept s (settle s) := by simp [latchKept]

theorem withQuestion_latchKept {deal : RxEntry → Question → State → State} (f : RxEntry)
    (hdeal : ∀ q, latchKept s (deal f q s)) : latchKept s (withQuestion deal f s) :=
  withQuestion_keeps (fun _ => ⟨rfl, rfl⟩) fun q _ => hdeal q

theorem dealOf_latchKept (k : Kind) (f : RxEntry) (s : State) : latchKept s (dealOf k f s) := by
  cases k with
  | halt => exact withQuestion_latchKept (deal := haltQuestion) f fun _ => ⟨by simp, by simp⟩
  | resume => exact withQuestion_latchKept (deal := resumeQuestion) f fun _ => ⟨by simp, by simp⟩
  | verdict => exact withQuestion_latchKept f fun _ => ⟨by simp, by simp⟩
  | buzz => exact withQuestion_latchKept f fun _ => ⟨by simp, by simp⟩
  | answer => exact withQuestion_latchKept f fun _ => ⟨by simp, by simp⟩
  | reveal => exact withQuestion_latchKept f fun _ => ⟨by simp, by simp⟩
  | _ => exact ⟨by simp [dealOf], by simp [dealOf]⟩

theorem turnOf_latchKept (f : RxEntry) (s : State) : latchKept s (turnOf f s) :=
  turnOf_keeps (P := latchKept s) (by simp [latchKept])
    (fun k _ h => latchKept_trans h (dealOf_latchKept k f _)) fun _ h => h

theorem Effect.latchKept {c : Instr} (h : Effect c s u) : latchKept s u := by
  cases h with
  | line h => exact latchKept_of_changesOnly h.lineOnly.1
  | panel h => exact latchKept_of_changesOnly h.1
  | timer h => exact latchKept_of_changesOnly h.1
  | press seat p => exact ⟨by simp [pressOf], by simp [pressOf]⟩
  | expiry _ _ => exact ⟨rfl, rfl⟩
  | turn f _ _ _ => exact turnOf_latchKept f s
  | pass q set _ _ _ => exact ⟨by simp [passCompleted], by simp [passCompleted]⟩
  | deadline => exact ⟨by simp, by simp⟩
  | watch => exact ⟨by simp, by simp⟩
  | link h => exact latchKept_of_changesOnly h.linkOnly

/-! ### What moves the theatre clock (R78) -/

theorem withQuestion_now {deal : RxEntry → Question → State → State} (f : RxEntry)
    (hdeal : ∀ q, (deal f q s).clock.now = s.clock.now) : (withQuestion deal f s).clock.now = s.clock.now :=
  withQuestion_keeps (P := fun u => u.clock.now = s.clock.now) (fun _ => rfl) fun q _ => hdeal q

theorem endQuestion_clock (s : State) : (endQuestion s).clock = { s.clock with timer := timerStart } := by
  simp [endQuestion, dropQuestion_clock]

theorem openQuestion_now (f : RxEntry) (s : State) : (openQuestion f s).clock.now = s.clock.now := by
  simp only [openQuestion]
  split <;> simp [dropQuestion_clock]

theorem dealVerdict_now (f : RxEntry) (q : Question) (s : State) : (dealVerdict f q s).clock.now = s.clock.now := by
  unfold dealVerdict
  (repeat' split) <;> simp [verdictCorrect, endQuestion_clock]
  split <;> simp

theorem dealReveal_now (f : RxEntry) (q : Question) (s : State) : (dealReveal f q s).clock.now = s.clock.now := by
  simp only [dealReveal]
  split <;> simp [endQuestion_clock, beginPass]

theorem dealOf_now (k : Kind) (f : RxEntry) (s : State) : (dealOf k f s).clock.now = s.clock.now := by
  cases k with
  | newShow => simp only [dealOf, dealShow]; split <;> simp [dropQuestion_clock]
  | openQ => simp only [dealOf, dealOpen]; split <;> simp [openQuestion_now]
  | closeQ => exact withQuestion_now f fun _ => by simp [endQuestion_clock]
  | halt => exact withQuestion_now (deal := haltQuestion) f fun _ => rfl
  | resume => exact withQuestion_now (deal := resumeQuestion) f fun _ => rfl
  | verdict => exact withQuestion_now f fun q => dealVerdict_now f q s
  | reveal => exact withQuestion_now f fun q => dealReveal_now f q s
  | buzz => exact withQuestion_now f fun _ => by simp
  | answer => exact withQuestion_now f fun _ => by simp
  | _ => simp [dealOf]

theorem Effect.movesClock {c : Instr} (h : Effect c s u) : movesClock c s u := by
  cases h with
  | panel _ hnow => exact hnow
  | line h => exact .inl (by have := h.lineOnly.1; simp_all [changesOnly])
  | timer h => exact .inl h.2.1
  | press seat p => exact .inl (by simp [pressOf])
  | expiry _ _ => exact .inl rfl
  | turn f _ _ _ =>
    exact .inl (turnOf_keeps (P := fun t => t.clock.now = s.clock.now) (by simp)
      (fun k t ht => (dealOf_now k f t).trans ht) fun _ ht => ht)
  | pass q set _ _ _ => exact .inl (by simp [passCompleted, dropQuestion_clock])
  | deadline => exact .inl (by simp)
  | watch => exact .inl (by simp)
  | link h => exact .inl (by have := h.linkOnly; simp_all [linkOnly, changesOnly])

/-! ### What every command answers -/

theorem not_isPower (c : Instr) (hassert : c ≠ .resetAssert) (hpins : ∀ p pins, c ≠ .powerUp p ∧ c ≠ .resetRelease pins) :
    ¬IsPower c := by
  rintro (p | _ | pins)
  · exact (hpins p ⟨0, 0, 0, false⟩).1 rfl
  · exact hassert rfl
  · exact (hpins ⟨false, ⟨0, 0, 0, false⟩⟩ pins).2 rfl

/-- Every command answers a next state. -/
theorem exec_next (c : Instr) (s : State) : ∃ t, exec c s = .next t := by
  by_cases hc : IsPower c
  · cases hc <;> exact ⟨_, rfl⟩
  · rw [exec_eq_event hc]
    exact ⟨_, rfl⟩

theorem exec_held {c : Instr} (hc : ¬IsPower c) (hheld : s.held = true) : exec c s = .next s := by
  rw [exec_eq_event hc, event, if_pos hheld]

theorem exec_pending {c : Instr} (h : exec c s = .next t) : t.pending = s.pending := by
  cases exec_cases h with
  | held _ _ | started _ _ | left => rfl
  | settled _ he => exact ((effectOf_effect he).latchKept.2 ▸ (settle_latchKept _).2)

theorem exec_straps {c : Instr} (hpins : ∀ p pins, c ≠ .powerUp p ∧ c ≠ .resetRelease pins)
    (h : exec c s = .next t) : t.straps = s.straps := by
  by_cases hassert : c = .resetAssert
  · subst hassert
    cases h
    rfl
  · rw [exec_eq_event (not_isPower c hassert hpins)] at h
    obtain rfl | ⟨-, u, hu, rfl⟩ := event_cases h
    · rfl
    · rw [(settle_latchKept u).1, (effectOf_effect hu).latchKept.1]

theorem exec_movesClock {c : Instr} (hpins : ∀ p pins, c ≠ .powerUp p ∧ c ≠ .resetRelease pins)
    (h : exec c s = .next t) : movesClock c s t := by
  by_cases hassert : c = .resetAssert
  · subst hassert
    cases h
    exact .inl rfl
  · rw [exec_eq_event (not_isPower c hassert hpins)] at h
    obtain rfl | ⟨-, u, hu, rfl⟩ := event_cases h
    · exact .inl rfl
    · simpa [movesClock] using (effectOf_effect hu).movesClock

/-! ### The start (R180, R181) -/

theorem latchStraps_presenter {pins : StrapPins} (h : pins.team = 0) :
    (latchStraps pins).role = .presenter ∧ (latchStraps pins).seatCount = 0 := by
  simp [latchStraps, h]

theorem latchStraps_desk {pins : StrapPins} {k : Team} (h : pins.team.toNat = k.val + 1) :
    (latchStraps pins).role = .desk k ∧ (latchStraps pins).seatCount = pins.seats.toNat + 1 := by
  have hne : pins.team ≠ 0#3 := fun h0 => by simp [h0] at h
  simp [latchStraps, hne, h]

/-! ### The held part (R181) -/

/-- A part that begins to be held drives, sends and shows nothing, and keeps the rest (log entry 20). -/
theorem hold_stops (power : Power) (h : power.resetActive = true ∨ power.supplyGood = false) (s : State) :
    (hold power s).held = true
      ∧ drivesPulse (hold power s) = false ∧ drivesFaultHalf (hold power s) = false
      ∧ drivesBusyHalf (hold power s) = false ∧ sendingChar (hold power s) = none
      ∧ sendingLine (hold power s) = none ∧ sendingRecord (hold power s) = [] ∧ sendingTxd (hold power s) = []
      ∧ attn (hold power s) = false
      ∧ (∀ (seat : Seat) (c : Choice), seatLamp (hold power s) seat = .dark ∧ choiceLed (hold power s) seat c = .dark
          ∧ seatSelectUsed (hold power s) seat = false)
      ∧ deskDisplay (hold power s)
        = { total := none, rank := none, countdown := none, uncertain := false, lineFault := false } := by
  have hheld : (hold power s).held = true := by
    rcases h with h | h <;> simp [State.held, h]
  simp [hheld, drivesPulse, drivesFaultHalf, drivesBusyHalf, sendingChar, sendingLine, sendingRecord, sendingTxd, attn,
    seatLamp, choiceLed, seatSelectUsed, deskDisplay]

end Sys2Proof.Machine
end

section

open Sys2Proof Sys2Proof.Machine Sys2Proof.Safety

/-- Settles O1: the step's own equation for a queue with a command at its front. -/
theorem stepRunsTheFrontCommand : Obligations.StepRunsTheFrontCommand := by
  intro c rest s h
  simp only [step, h]

/-- Settles O2: every command but those of the pins is an event, whose effect keeps the latch, the waiting commands and
the theatre clock but in a scan. -/
theorem everyCommandAnswersAndOnlyTimeMovesTheClock : Obligations.EveryCommandAnswersAndOnlyTimeMovesTheClock := by
  refine ⟨⟨fun c s => ?_, fun c s hheld hassert hpins => exec_held (not_isPower c hassert hpins) hheld⟩,
    fun s hp => ⟨fun hheld => by simp [step, hp, idleStep, hheld], fun hheld => ?_⟩, fun c s t h hpins => ?_⟩
  · obtain ⟨t, h⟩ := exec_next c s
    exact ⟨t, h, exec_pending h, fun hpins => exec_straps hpins h⟩
  · simp [step, hp, idleStep, hheld, tickClock]
  · refine (exec_movesClock hpins h).imp_right fun ⟨hscans, hnow⟩ => ⟨hnow, ?_⟩
    cases hscans with
    | keyScan readings => exact .inl ⟨readings, rfl⟩
    | acceptedPress seat key => exact .inr ⟨seat, key, .inl rfl⟩
    | acceptedRelease seat key => exact .inr ⟨seat, key, .inr rfl⟩

/-- Settles O3: both commands start every block from its reset value, with the straps as latched. -/
theorem powerUpAndReleaseStartEveryBlock : Obligations.PowerUpAndReleaseStartEveryBlock := by
  intro pins s
  refine ⟨startWith (latchStraps pins) s.pending, rfl, fun h => ?_, fun h => ?_, ?_, rfl, rfl, rfl,
    latchStraps_presenter, fun k => latchStraps_desk, rfl, rfl, rfl, rfl, fun seat => ?_, rfl, rfl, rfl, rfl, rfl, rfl,
    fun h => ?_, fun k h => ?_, rosterOf_startWith (latchStraps pins) s.pending, rfl, rfl⟩
  · simp [exec, execResetRelease, h, latchAndStart]
  · simp [exec, execResetRelease, h]
  · cases h : s.power; simp [State.held, h]
  · simp [startWith, panelStart, seatStart]
  · simp_all [startWith, scoreStart]
  · simp_all [startWith, scoreStart]

/-- Settles O4: a held part drives, sends and shows nothing, and holding leaves the rest. -/
theorem resetAssertStopsEveryOutput : Obligations.ResetAssertStopsEveryOutput := by
  intro s
  have hstops := fun (power : Power) h => hold_stops power h s
  refine ⟨⟨_, rfl, rfl, ?_⟩, fun pins => ⟨_, rfl, rfl, ?_⟩⟩
  · obtain ⟨h1, h2, h3, h4, h5, h6, h7, h8, h9, h10, h11⟩ := hstops { s.power with resetActive := true } (.inl rfl)
    exact ⟨h1, h2, h3, h4, h5, h6, h7, h8, h9, h10, h11, rfl, rfl, rfl, rfl, rfl, rfl, rfl, rfl, rfl, rfl, rfl, rfl, rfl⟩
  · obtain ⟨h1, h2, h3, h4, h5, h6, h7, h8, h9, h10, h11⟩ := hstops { s.power with supplyGood := false } (.inr rfl)
    exact ⟨h1, h2, h3, h4, h5, h6, h7, h8, h9, h10, h11, rfl, rfl, rfl, rfl, rfl, rfl, rfl, rfl, rfl, rfl, rfl, rfl, rfl⟩

/-- Settles O55: each condition holds of a started part whatever its straps, and the reset state is one. -/
theorem resetStateIsSound : Obligations.ResetStateIsSound := by
  have hstart : State.reset = latchAndStart powerOn { stn := 0, team := 0, seats := 0, speed := false } State.reset :=
    rfl
  have hscores := latchAndStart_scoresSound powerOn { stn := 0, team := 0, seats := 0, speed := false } State.reset
  rw [← hstart] at hscores
  have hroster := latchAndStart_rosterSound powerOn { stn := 0, team := 0, seats := 0, speed := false } State.reset
  have hsettled := latchAndStart_settled powerOn { stn := 0, team := 0, seats := 0, speed := false } State.reset
  exact ⟨hscores.1, hscores.2, rangesHold_dropped rfl (scoreStart_inRange _), tallyAgrees_start rfl, buzzSound_empty rfl,
    ⟨rfl, rfl, rfl, rfl, rfl⟩, storeSound_start rfl, queueSound_start rfl, hroster, hsettled⟩

end

section
/-! PROOFS. The transmitters: what the settling begins, and which entry it is (R9, R10, R41, R43, R183, R188). -/

namespace Sys2Proof.Machine

open Sys2Proof.Safety

variable {s u : State} {e : TxEntry}

/-! ### The start of a frame (R43 to R45, R62) -/

theorem startFrame_starts (h : offered s = some e) : frameStarts e s (startFrame e s) := by
  obtain ⟨hnone, hfound⟩ := offered_some h
  have hfree := inFlight_eq_none.mp hnone
  rcases launch_cases (eligible s) s.sched.queue with ⟨-, hn⟩ | ⟨front, x, back, hq, hx, -, hl⟩
  · simp [hfound] at hn
  · obtain rfl : e = x := by simpa [hfound] using hx
    have hqueue : (startFrame e s).sched.queue = front ++ { e with inFlight := true } :: back := hl
    refine ⟨rfl, ?_, ⟨front, back, hq, hqueue⟩, rfl⟩
    have hfront : ∀ y ∈ front, y.inFlight = false := fun y hy => hfree y (by simp [hq, hy])
    rw [inFlight?, hqueue, List.find?_append, List.find?_eq_none.mpr fun y hy => by simp [hfront y hy]]
    simp

theorem frameStarts_congr (h : frameStarts e s u) {t : State} (hline : t.line = u.line) (hsched : t.sched = u.sched) :
    frameStarts e s t := by
  simpa [frameStarts, hline, hsched, inFlight?] using h

@[simp] theorem settle_line (s : State) : (settle s).line = (settleTx s).line := by simp [settle]

@[simp] theorem settle_sched (s : State) : (settle s).sched = (settleTx s).sched := by simp [settle]

/-- The transmitter sends nothing (R9). -/
def atRest (tx : TxState) : Prop := tx = .silent ∨ tx = .ready ∨ tx = .defer

/-- What the line transmitter can take up: another state of rest, a frame, or nothing. -/
theorem settleTx_cases (s : State) :
    settleTx s = s ∨ atRest s.line.tx ∧ (∃ tx, atRest tx ∧ settleTx s = setTx tx s)
      ∨ atRest s.line.tx ∧ ∃ e, offered s = some e ∧ settleTx s = startFrame e s := by
  unfold settleTx
  split
  case h_4 => exact .inl rfl
  all_goals
    next htx =>
    have hrest : atRest s.line.tx := by simp [atRest, htx]
    split
    · exact .inr (.inl ⟨hrest, .silent, by simp [atRest], rfl⟩)
    · split
      · split
        · exact .inr (.inl ⟨hrest, .silent, by simp [atRest], rfl⟩)
        · next e he =>
          split
          · exact .inr (.inl ⟨hrest, .defer, by simp [atRest], rfl⟩)
          · exact .inr (.inr ⟨hrest, e, he, rfl⟩)
      · exact .inr (.inl ⟨hrest, _, by split <;> simp [atRest], rfl⟩)

/-- At rest, the line transmitter does what the permission, the line and the offer give it (R9, R10, R43). -/
theorem settleTx_atRest (h : atRest s.line.tx) :
    settleTx s = if maySend s = false then setTx .silent s
      else if lineIdle s = true then
        (offered s).elim (setTx .silent s) fun e =>
          if s.store.health = .quiet ∧ (s.line.level = .idle ∨ s.line.tx = .defer) then setTx .defer s
          else startFrame e s
      else setTx (if s.sched.queue.isEmpty then .silent else .ready) s := by
  unfold settleTx
  rcases h with h | h | h <;> simp only [h] <;> cases maySend s <;> cases lineIdle s <;> cases offered s <;> simp

/-! ### What the settling leaves of the line and the queue -/

theorem settle_receiver (s : State) :
    (settle s).line.rx = s.line.rx ∧ (settle s).line.disturbed = s.line.disturbed
      ∨ (settle s).line.tx = .arbitrate ∧ s.line.tx ≠ .arbitrate ∧ (settle s).line.rx = .hunt
        ∧ (settle s).line.disturbed = false := by
  rw [settle_line]
  rcases settleTx_cases s with h | ⟨-, tx, -, h⟩ | ⟨hrest, e, -, h⟩ <;> rw [h]
  · exact .inl ⟨rfl, rfl⟩
  · exact .inl ⟨rfl, rfl⟩
  · exact .inr ⟨rfl, fun hx => by simp [atRest, hx] at hrest, rfl, rfl⟩

theorem settle_fault (s : State) : (settle s).line.fault = s.line.fault := by
  rw [settle_line]
  rcases settleTx_cases s with h | ⟨-, tx, -, h⟩ | ⟨-, e, -, h⟩ <;> rw [h] <;> rfl

theorem launch_landed (p : TxEntry → Bool) (l : List TxEntry) :
    (launch p l).map (fun e => { e with inFlight := false }) = l.map fun e => { e with inFlight := false } := by
  rcases launch_cases p l with ⟨h, -⟩ | ⟨front, e, back, hl, -, -, h⟩
  · rw [h]
  · rw [h, hl]
    simp

theorem settle_queue (s : State) :
    (settle s).sched.queue.map (fun e => { e with inFlight := false })
      = s.sched.queue.map fun e => { e with inFlight := false } := by
  rw [settle_sched]
  rcases settleTx_cases s with h | ⟨-, tx, -, h⟩ | ⟨-, e, -, h⟩ <;> rw [h]
  · rfl
  · exact launch_landed _ _

theorem settle_answers (s : State) :
    (settle s).sched.answers.map (fun a => { a with changed := false })
      = s.sched.answers.map fun a => { a with changed := false } := by
  rw [settle_sched]
  rcases settleTx_cases s with h | ⟨-, tx, -, h⟩ | ⟨-, e, -, h⟩ <;> rw [h]
  · rfl
  · simp only [startFrame, clearChanged]
    split <;> simp

/-! ### The desk-link transmitter (R183, R187, R188) -/

theorem settleLink_link_congr (h : u.link = s.link) : (settleLink u).link = (settleLink s).link := by
  unfold settleLink nextNotice
  rw [h]
  split <;> simp [h]

theorem settle_link (s : State) : (settle s).link = (settleLink s).link :=
  settleLink_link_congr (by simp)

/-- What the desk-link transmitter can take up: nothing, the first reply, or a notice that is pending and enabled. -/
theorem settleLink_cases (s : State) :
    (settleLink s).link = s.link
      ∨ (∃ r rest, s.link.tx = .idle ∧ s.link.replies = r :: rest ∧ (settleLink s).link
          = { s.link with tx := .reply (replyBytes s.link.overrun r), overrun := false })
      ∨ ∃ n, s.link.tx = .idle ∧ nextNotice s = some n ∧ (settleLink s).link = { s.link with
          tx := .notice (noticeBytes n s.link.faultReason)
          raised := s.link.raised &&& ~~~(BitVec.twoPow 7 (noticeBit n)) } := by
  unfold settleLink
  split
  · next r rest htx hr => exact .inr (.inl ⟨r, rest, htx, hr, rfl⟩)
  · next n htx hr hn => exact .inr (.inr ⟨n, htx, hn, rfl⟩)
  · exact .inl rfl

theorem settleLink_frame_link (s : State) :
    (settleLink s).link.rx = s.link.rx ∧ (settleLink s).link.replies = s.link.replies
      ∧ (settleLink s).link.mask = s.link.mask ∧ (settleLink s).link.faultReason = s.link.faultReason
      ∧ (settleLink s).link.raised &&& s.link.raised = (settleLink s).link.raised := by
  rcases settleLink_cases s with h | ⟨r, rest, -, -, h⟩ | ⟨n, -, -, h⟩ <;> rw [h]
  · simp
  · simp
  · refine ⟨rfl, rfl, rfl, rfl, ?_⟩
    change s.link.raised &&& _ &&& s.link.raised = s.link.raised &&& _
    rw [BitVec.and_comm (s.link.raised &&& _), ← BitVec.and_assoc, BitVec.and_self]

/-- The first kind in the order of R187's table that is both pending and enabled. -/
theorem nextNotice_eq_some {n : Notice} (hn : (s.link.raised &&& s.link.mask).getLsbD (noticeBit n) = true)
    (hfirst : ∀ m, noticeBit m < noticeBit n → (s.link.raised &&& s.link.mask).getLsbD (noticeBit m) = false) :
    nextNotice s = some n := by
  have h0 := hfirst .floor
  have h1 := hfirst .round
  have h2 := hfirst .standings
  have h3 := hfirst .poll
  have h4 := hfirst .health
  have h5 := hfirst .fault
  generalize hset : s.link.raised &&& s.link.mask = set at *
  simp only [nextNotice, hset]
  cases n <;> simp_all [noticeBit]

theorem noticeBytes_eq (n : Notice) (why : Option FaultReason) :
    noticeBytes n why = if n = .fault then [0xA5, 0x45, 1, faultReasonCode why]
      else [0xA5, byteOf (0x40 + noticeBit n), 0] := by
  cases n <;> rfl

theorem settleLink_reply {r : Reply} {rest : List Reply} (htx : s.link.tx = .idle) (hr : s.link.replies = r :: rest) :
    (settleLink s).link = { s.link with tx := .reply (replyBytes s.link.overrun r), overrun := false } := by
  simp [settleLink, htx, hr]

theorem settleLink_notice {n : Notice} (htx : s.link.tx = .idle) (hr : s.link.replies = [])
    (hn : nextNotice s = some n) : (settleLink s).link = { s.link with
      tx := .notice (noticeBytes n s.link.faultReason)
      raised := s.link.raised &&& ~~~(BitVec.twoPow 7 (noticeBit n)) } := by
  simp [settleLink, htx, hr, hn]

theorem settleLink_none (hr : s.link.replies = []) (hn : nextNotice s = none) : settleLink s = s := by
  unfold settleLink
  split <;> simp_all

theorem settleLink_busy (htx : s.link.tx ≠ .idle) : settleLink s = s := by
  unfold settleLink
  split <;> simp_all

/-! ### The offer (R43, R176) -/

/-- The three conditions that hold a TALLY back are lifted (R176). -/
def liftedHolds (s : State) : Prop :=
  s.store.queue = [] ∧ s.engine.pass = none ∧ (s.engine.state = .closed ∨ s.engine.state = .standby)

theorem tallyLifted_iff : tallyLifted s = true ↔ liftedHolds s := by
  simp [tallyLifted, liftedHolds, and_assoc]

theorem eligible_iff (s : State) (e : TxEntry) : eligible s e = true ↔ (e.kind = .tally → liftedHolds s) := by
  simp only [eligible, Bool.or_eq_true, decide_eq_true_eq, tallyLifted_iff]
  tauto

theorem not_eligible_iff (s : State) (e : TxEntry) : eligible s e = false ↔ e.kind = .tally ∧ ¬liftedHolds s := by
  have := eligible_iff s e
  cases h : eligible s e <;> simp_all

theorem inFlight_some (h : inFlight? s = some e) : e ∈ s.sched.queue ∧ e.inFlight = true :=
  ⟨List.mem_of_find?_eq_some h, List.find?_some h⟩

theorem offered_eq_none :
    offered s = none ↔ (∃ x ∈ s.sched.queue, x.inFlight = true) ∨ ∀ x ∈ s.sched.queue, x.kind = .tally ∧ ¬liftedHolds s := by
  unfold offered
  cases h : inFlight? s with
  | some e =>
    obtain ⟨hmem, hflight⟩ := inFlight_some h
    simp only [Option.isSome_some, if_true, true_iff]
    exact .inl ⟨e, hmem, hflight⟩
  | none =>
    have hfree := inFlight_eq_none.mp h
    simp only [Option.isSome_none, Bool.false_eq_true, if_false, List.find?_eq_none, Bool.not_eq_true, not_eligible_iff]
    refine ⟨.inr, ?_⟩
    rintro (⟨x, hx, hflight⟩ | hall)
    · simp [hfree x hx] at hflight
    · exact hall

theorem offered_lowest (h : offered s = some e) :
    (∃ front back, s.sched.queue = front ++ e :: back ∧ ∀ x ∈ front, x.kind = .tally ∧ ¬liftedHolds s)
      ∧ (s.sched.queue.Pairwise (fun a b => a.key ≤ b.key) →
        ∀ x ∈ s.sched.queue, (x.kind = .tally → liftedHolds s) → e.key ≤ x.key) := by
  obtain ⟨-, hfound⟩ := offered_some h
  obtain ⟨he, front, back, hq, hfront⟩ := List.find?_eq_some_iff_append.mp hfound
  have hheld : ∀ x ∈ front, x.kind = .tally ∧ ¬liftedHolds s := fun x hx =>
    (not_eligible_iff s x).mp (by simpa using hfront x hx)
  refine ⟨⟨front, back, hq, hheld⟩, fun hsorted x hx hlifted => ?_⟩
  rw [hq] at hx hsorted
  rcases List.mem_append.mp hx with hx | hx
  · exact absurd (hlifted (hheld x hx).1) (hheld x hx).2
  · rcases List.mem_cons.mp hx with rfl | hx
    · exact BitVec.le_refl _
    · exact List.rel_of_pairwise_cons (List.pairwise_append.mp hsorted).2.1 hx

theorem lineIdle_iff (s : State) :
    lineIdle s = true ↔ (s.line.level = .idle ∨ s.line.level = .longIdle) ∧ ∀ t, s.line.rx ≠ .tail t := by
  unfold lineIdle
  cases s.line.rx <;> simp

end Sys2Proof.Machine
end

section

open Sys2Proof Sys2Proof.Machine Sys2Proof.Safety

/-- Settles O5: the line transmitter takes up a state of rest or a frame, the desk-link transmitter a reply or a
notice. -/
theorem settlingStartsOnlyTheTransmitters : Obligations.SettlingStartsOnlyTheTransmitters := by
  refine ⟨fun s => ?_, fun s => ⟨fun r rest htx hr => ?_, fun n htx hr hn hfirst => ?_, fun htx hr hnone => ?_,
    fun htx => ?_⟩, fun overrun r => ?_, rfl, rfl, fun n s => rfl⟩
  · rw [settle_link]
    obtain ⟨hrx, hreplies, hmask, hfault, hraised⟩ := settleLink_frame_link s
    exact ⟨settle_linkOnly s, settle_fault s, settle_receiver s, settle_queue s, settle_answers s, hrx, hreplies,
      hmask, hfault, hraised⟩
  · rw [settle_link, settleLink_reply htx hr]
  · rw [settle_link, settleLink_notice htx hr (nextNotice_eq_some hn hfirst), noticeBytes_eq]
  · rw [settle_link, settleLink_none hr (nextNotice_eq_none.mpr hnone)]
  · rw [settle_link, settleLink_busy htx]
  · obtain ⟨kind, status, inPass, data⟩ := r
    cases status with
    | refused why => cases why <;> cases overrun <;> cases inPass <;> rfl
    | _ => cases overrun <;> cases inPass <;> rfl

/-- Settles O6: the offer is the first entry that no hold of R176 keeps back, and the transmitter at rest starts it
where permission, line and health allow. -/
theorem lowestEligibleEntryStarts : Obligations.LowestEligibleEntryStarts := by
  refine ⟨⟨fun e q hq => insertByKey_eq e hq, fun s => ⟨inFlight_eq_none, fun e h => inFlight_some h, offered_eq_none,
    fun e h => ?_⟩⟩, lineIdle_iff, fun s hrest => ?_⟩
  · obtain ⟨hnone, hfound⟩ := offered_some h
    exact ⟨inFlight_eq_none.mp hnone, (eligible_iff s e).mp (List.find?_some hfound), offered_lowest h⟩
  · have hsettle := settleTx_atRest (s := s) hrest
    refine ⟨fun hsend => ?_, fun hsend hidle hnone => ?_, fun e hsend hidle he hquiet => ?_,
      fun e hsend hidle he hquiet hlevel => ?_, fun hsend hbusy => ?_⟩
    · simp [hsettle, hsend, setTx]
    · simp [hsettle, hsend, hidle, hnone, setTx]
    · have hstart : settleTx s = startFrame e s := by
        rw [hsettle]
        simp only [hsend, hidle, he, Option.elim_some, Bool.true_eq_false, if_false, if_true]
        exact if_neg fun ⟨hq, hl⟩ => by rcases hquiet with h | ⟨h, h'⟩ <;> simp_all
      exact frameStarts_congr (startFrame_starts he) (by rw [settle_line, hstart]) (by rw [settle_sched, hstart])
    · simp [hsettle, hsend, hidle, he, hquiet, hlevel, setTx]
    · simp [hsettle, hsend, hbusy, setTx]

end

section
/-! PROOFS. Frames and bodies: the check, what a receiver reads of a frame as it is sent, and what it reads of an
ANSWER and a TALLY body (2.3 to 2.8, R24, R27 to R29, R34, R38, R44 to R46). -/

namespace Sys2Proof.Machine

open Sys2Proof.Safety

variable {s : State}

/-! ### Bytes of a body -/

theorem byteAt_append_left {a : List Byte} (b : List Byte) {i : Nat} (h : i < a.length) :
    byteAt (a ++ b) i = byteAt a i := by
  simp [byteAt, List.getElem?_append_left h]

theorem byteAt_append_right {a : List Byte} (b : List Byte) {i : Nat} (h : a.length ≤ i) :
    byteAt (a ++ b) i = byteAt b (i - a.length) := by
  simp [byteAt, List.getElem?_append_right h]

theorem byteAt_take (a : List Byte) {n i : Nat} (h : i < n) : byteAt (a.take n) i = byteAt a i := by
  simp [byteAt, h]

theorem byteOf_toNat {n : Nat} (h : n < 256) : (byteOf n).toNat = n := by
  rw [BitVec.toNat_ofNat]
  exact Nat.mod_eq_of_lt h

@[simp] theorem length_bytes4 (x : BitVec 32) : (bytes4 x).length = 4 := rfl

@[simp] theorem length_bytes2 (v : BitVec 16) : (bytes2 v).length = 2 := rfl

/-- Two bytes read as a 16-bit value (2.8). -/
theorem bytes2_append (v : BitVec 16) : v.extractLsb' 8 8 ++ v.extractLsb' 0 8 = v := by
  have h : v.extractLsb' 8 8 ++ v.extractLsb' 0 8 = v.extractLsb' 0 16 :=
    BitVec.extractLsb'_append_extractLsb'_eq_extractLsb' rfl
  rw [h, BitVec.extractLsb'_eq_self]

theorem kindOfCode_eq_some (b : Byte) (k : Kind) : kindOfCode b = some k ↔ kindCode k = b := by
  constructor
  · intro h
    simpa using List.find?_some h
  · rintro rfl
    cases k <;> rfl

/-! ### The check (R28) -/

/-- One shift of the check register, no bit coming in. -/
def shiftCheck (r : BitVec 16) : BitVec 16 := if r.msb then (r <<< 1) ^^^ 0x1021#16 else r <<< 1

/-- A register that a shift empties was empty: the low bit of the generator is set, and a shift clears it. -/
theorem shiftCheck_eq_zero {r : BitVec 16} (h : shiftCheck r = 0#16) : r = 0#16 := by
  unfold shiftCheck at h
  split at h
  · have hbit := congrArg (·.getLsbD 0) h
    simp at hbit
  · next hmsb =>
    apply BitVec.eq_of_getLsbD_eq
    intro i hi
    have hbit := congrArg (·.getLsbD (i + 1)) h
    rw [BitVec.msb_eq_getLsbD_last] at hmsb
    simp only [BitVec.getLsbD_shiftLeft] at hbit
    by_cases hlast : i = 15
    · subst hlast; simpa using hmsb
    · have : i + 1 < 16 := by omega
      simpa [this] using hbit

/-- The first n bits of a value, most significant first, into the check register. -/
def checkBits (r c : BitVec 16) (n : Nat) : BitVec 16 := (List.range n).foldl (fun r i => crcBit r (c.getMsbD i)) r

/-- Bits fed in are bits added to the register's own, shifted through it: the check is linear. -/
theorem checkBits_eq (r c : BitVec 16) (n : Nat) (hn : n ≤ 16) :
    checkBits r c n = shiftCheck^[n] (r ^^^ c) ^^^ (c <<< n) := by
  induction n with
  | zero => simp [checkBits]
  | succ n ih =>
    have ih := ih (by omega)
    have hmsb : (c <<< n).msb = c.getMsbD n := by
      rw [BitVec.msb_eq_getMsbD_zero, BitVec.getMsbD_shiftLeft]
      simp
    have hstep : checkBits r c (n + 1) = crcBit (checkBits r c n) (c.getMsbD n) := by
      simp [checkBits, List.range_succ]
    rw [hstep, ih, Function.iterate_succ_apply', crcBit, shiftCheck]
    generalize shiftCheck^[n] (r ^^^ c) = x
    have hshift : c <<< (n + 1) = (c <<< n) <<< 1 := by rw [← BitVec.shiftLeft_add]
    rw [BitVec.msb_xor, hmsb, Bool.xor_assoc, Bool.xor_self, Bool.xor_false, hshift, BitVec.shiftLeft_xor_distrib]
    split
    · rw [BitVec.xor_assoc, BitVec.xor_assoc, BitVec.xor_comm 0x1021#16]
    · rfl

theorem crcByte_bytes2 (r c : BitVec 16) : (bytes2 c).foldl crcByte r = checkBits r c 16 := by
  have hrange : List.range 16 = List.range 8 ++ (List.range 8).map (8 + ·) := by decide
  have hhigh : ∀ i < 8, (c.extractLsb' 8 8).getMsbD i = c.getMsbD i := fun i hi => by
    have hplace : 8 + (8 - 1 - i) = 16 - 1 - i := by omega
    simp only [BitVec.getMsbD, BitVec.getLsbD_extractLsb', hi, show i < 16 by omega, hplace]
    simp
    omega
  have hlow : ∀ i < 8, (c.extractLsb' 0 8).getMsbD i = c.getMsbD (8 + i) := fun i hi => by
    have hplace : 0 + (8 - 1 - i) = 16 - 1 - (8 + i) := by omega
    simp only [BitVec.getMsbD, BitVec.getLsbD_extractLsb', hi, show 8 + i < 16 by omega, hplace]
    simp
    omega
  simp only [bytes2, List.foldl_cons, List.foldl_nil, checkBits, hrange, List.foldl_append, List.foldl_map]
  rw [crcByte, crcByte]
  rw [List.foldl_ext _ _ _ fun b i hi => by rw [hlow i (List.mem_range.mp hi)]]
  congr 1
  exact List.foldl_ext _ _ _ fun b i hi => by rw [hhigh i (List.mem_range.mp hi)]

theorem iterate_shiftCheck_eq_zero (n : Nat) {r : BitVec 16} :
    shiftCheck^[n] r = 0#16 ↔ r = 0#16 := by
  constructor
  · induction n generalizing r with
    | zero => exact id
    | succ n ih => exact fun h => shiftCheck_eq_zero (ih h)
  · rintro rfl
    exact Function.iterate_fixed (by decide) n

/-- The residue by which a receiver may judge the check (R28). -/
theorem crc_check (bytes : List Byte) (check : BitVec 16) :
    crc (bytes ++ bytes2 check) = 0 ↔ check = crc bytes := by
  change _ = 0#16 ↔ _
  have hshift : check <<< 16 = 0#16 := BitVec.shiftLeft_eq_zero (by omega)
  rw [crc, List.foldl_append, crcByte_bytes2, checkBits_eq _ _ 16 (by omega), hshift, BitVec.xor_zero,
    iterate_shiftCheck_eq_zero, BitVec.xor_eq_zero_iff, eq_comm, crc]

/-! ### A frame as it is sent (R24, R27 to R29) -/

section Frame

variable {k : Kind} {key : Key} {body : List Byte}

/-- The characters of a frame after its SYNs (R24). -/
def framed (k : Kind) (key : Key) (body : List Byte) : List Byte :=
  bytes4 key ++ [kindCode k, byteOf body.length] ++ body
    ++ bytes2 (crc (bytes4 key ++ [kindCode k, byteOf body.length] ++ body))

theorem frameChars_eq (k : Kind) (key : Key) (body : List Byte) :
    frameChars k key body = [synByte, synByte] ++ framed k key body := by
  simp [frameChars, framed]

theorem framed_length (k : Kind) (key : Key) (body : List Byte) : (framed k key body).length = 8 + body.length := by
  simp only [framed, List.length_append, length_bytes4, length_bytes2, List.length_cons, List.length_nil]
  omega

theorem framed_kind (k : Kind) (key : Key) (body : List Byte) : byteAt (framed k key body) 4 = kindCode k := rfl

theorem framed_count (k : Kind) (key : Key) (h : body.length < 256) : numAt (framed k key body) 5 = body.length :=
  byteOf_toNat h

/-- The characters of a body stand after the key, the kind and the length (R24). -/
theorem framed_body (k : Kind) (key : Key) {i : Nat} (h : i < body.length) :
    byteAt (framed k key body) (6 + i) = byteAt body i := by
  rw [framed, byteAt_append_left _ (by simp; omega), byteAt_append_right _ (by simp)]
  simp

theorem keyOfBytes_take {l : List Byte} {n : Nat} (h : 4 ≤ n) : keyOfBytes (l.take n) = keyOfBytes l := by
  simp only [keyOfBytes, byteAt_take l (show 0 < n by omega), byteAt_take l (show 1 < n by omega),
    byteAt_take l (show 2 < n by omega), byteAt_take l (show 3 < n by omega)]

theorem framed_key (k : Kind) (key : Key) (body : List Byte) : keyOfBytes (framed k key body) = key :=
  keyOfBytes_bytes4 key

theorem numAt_take (a : List Byte) {n i : Nat} (h : i < n) : numAt (a.take n) i = numAt a i := by
  rw [numAt, byteAt_take a h, numAt]

/-- The body fits its kind, as R27 and R38 lay it out. -/
structure LaysOut (k : Kind) (key : Key) (body : List Byte) : Prop where
  cls : keyClass key = kindClass k
  length : body.length ∈ kindLengths k
  seats : k = .tally → 1 ≤ numAt body 3 ∧ numAt body 3 ≤ 8 ∧ body.length = tallyLength (numAt body 3)

theorem LaysOut.length_le (h : LaysOut k key body) : body.length ≤ 26 := by
  have hlongest : ∀ n ∈ kindLengths k, n ≤ 26 := by cases k <;> decide
  exact hlongest _ h.length

theorem LaysOut.kindFaults (h : LaysOut k key body) {n : Nat} (hn : n = 5) :
    kindFaults ((framed k key body).take n) = [] := by
  have hkind : kindOfCode (kindCode k) = some k := (kindOfCode_eq_some _ k).mpr rfl
  simp [Machine.kindFaults, byteAt_take _ (show 4 < n by omega), framed_kind, hkind,
    keyOfBytes_take (show 4 ≤ n by omega), framed_key, h.cls]

theorem LaysOut.lengthFaults (h : LaysOut k key body) {n : Nat} (hn : n = 6) :
    lengthFaults ((framed k key body).take n) = [] := by
  have hkind : kindOfCode (kindCode k) = some k := (kindOfCode_eq_some _ k).mpr rfl
  have hle := h.length_le
  simp [Machine.lengthFaults, byteAt_take _ (show 4 < n by omega), framed_kind, hkind,
    numAt_take _ (show 5 < n by omega), framed_count k key (show body.length < 256 by omega), h.length,
    Config.longestBody, Nat.not_lt.mpr hle]

theorem LaysOut.tallyFaults (h : LaysOut k key body) {n : Nat} (hn : n = 10) :
    tallyFaults ((framed k key body).take n) = [] := by
  have hle := h.length_le
  simp only [Machine.tallyFaults, byteAt_take _ (show 4 < n by omega), framed_kind,
    numAt_take _ (show 5 < n by omega), numAt_take _ (show 9 < n by omega),
    framed_count k key (show body.length < 256 by omega), kindOfCode_eq_some]
  refine if_neg fun ⟨hk, _, hbad⟩ => ?_
  obtain rfl : k = .tally :=
    Option.some.inj (((kindOfCode_eq_some _ k).mpr rfl).symm.trans ((kindOfCode_eq_some _ .tally).mpr hk))
  obtain ⟨hone, height, hlen⟩ := h.seats rfl
  have hseats : numAt (framed .tally key body) 9 = numAt body 3 :=
    congrArg BitVec.toNat (framed_body .tally key (show 3 < body.length by simp [hlen, tallyLength]; omega))
  rw [hseats] at hbad
  omega

theorem LaysOut.checkFaults (h : LaysOut k key body) {n : Nat} (hn : 6 < n) :
    checkFaults ((framed k key body).take n) = [] := by
  have hshort := h.length_le
  simp only [Machine.checkFaults, numAt_take _ (show 5 < n by omega),
    framed_count k key (show body.length < 256 by omega), List.length_take, framed_length]
  refine if_neg fun ⟨hlast, hdiffers⟩ => hdiffers ?_
  have hall : (framed k key body).take n = framed k key body := List.take_of_length_le (by rw [framed_length]; omega)
  have hcovered : (bytes4 key ++ [kindCode k, byteOf body.length] ++ body).length = 6 + body.length := by
    simp; omega
  rw [hall, framed, List.take_left' hcovered, List.drop_left' hcovered]

/-- No test of R29 finds a fault at any character of a frame that its sender laid out. -/
theorem LaysOut.faultsAt (h : LaysOut k key body) {n : Nat} (hn : 0 < n) (hle : n ≤ 8 + body.length) :
    faultsAt ((framed k key body).take n) false = [] := by
  have hlast : ((framed k key body).take n).length - 1 = n - 1 := by
    rw [List.length_take, framed_length]; omega
  simp only [Machine.faultsAt, hlast]
  have hkind : (if n - 1 = 4 then Machine.kindFaults ((framed k key body).take n) else []) = [] :=
    ite_eq_right_iff.mpr fun hp => h.kindFaults (by omega)
  have hlength : (if n - 1 = 5 then Machine.lengthFaults ((framed k key body).take n) else []) = [] :=
    ite_eq_right_iff.mpr fun hp => h.lengthFaults (by omega)
  have htally : (if n - 1 = 9 then Machine.tallyFaults ((framed k key body).take n) else []) = [] :=
    ite_eq_right_iff.mpr fun hp => h.tallyFaults (by omega)
  have hcheck : (if 5 < n - 1 then Machine.checkFaults ((framed k key body).take n) else []) = [] :=
    ite_eq_right_iff.mpr fun hp => h.checkFaults (by omega)
  rw [hkind, hlength, htally, hcheck]
  simp

/-- What a receiver has read after n clean characters. -/
def readClean (l : List Byte) (n : Nat) : Partial :=
  (l.take n).foldl (fun f c => readChar f c false) { chars := [], faults := [] }

theorem readClean_succ {l : List Byte} {n : Nat} (h : n < l.length) :
    readClean l (n + 1) = readChar (readClean l n) l[n] false := by
  rw [readClean, ← List.take_append_getElem h, List.foldl_append]
  rfl

theorem LaysOut.readClean_eq (h : LaysOut k key body) {n : Nat} (hle : n ≤ 8 + body.length) :
    readClean (framed k key body) n = { chars := (framed k key body).take n, faults := [] } := by
  induction n with
  | zero => rfl
  | succ n ih =>
    have hn : n < (framed k key body).length := by rw [framed_length]; omega
    rw [readClean_succ hn, ih (by omega), readChar]
    simp only [List.take_append_getElem hn, List.nil_append, h.faultsAt (Nat.succ_pos n) hle]

end Frame

end Sys2Proof.Machine
end

section

open Sys2Proof Sys2Proof.Machine Sys2Proof.Safety

/-- Settles O8: the frame laid out by R24 passes each test of R29 at its character, so that the reading is its
characters without a fault. -/
theorem frameAsSentReadsWithoutFault : Obligations.FrameAsSentReadsWithoutFault := by
  refine ⟨rfl, ⟨by decide +kernel, crc_check, fun k key body => by simp [frameChars, synByte]⟩,
    fun k key body hcls hlen hseats => ?_⟩
  have hlays : LaysOut k key body := ⟨hcls, hlen, hseats⟩
  have hle := hlays.length_le
  have hread : ∀ n ≤ 8 + body.length, (((frameChars k key body).drop 2).take n).foldl (fun f c => readChar f c false)
      { chars := [], faults := [] } = { chars := (framed k key body).take n, faults := [] } := fun n hn => by
    rw [frameChars_eq]
    exact hlays.readClean_eq hn
  have hall : (framed k key body).take (8 + body.length) = framed k key body :=
    List.take_of_length_le (by rw [framed_length])
  have hcount := framed_count k key (show body.length < 256 by omega)
  simp only [hread _ (Nat.le_refl _), hall]
  refine ⟨trivial, ?_, ?_, framed_key k key body, ?_, fun n hn => ?_⟩
  · simp [extentReached, framed_length, hcount]
    omega
  · simp [kindRead, framed_length, framed_kind, kindOfCode_eq_some]
    omega
  · rw [hcount, framed, List.append_assoc _ body]
    rw [List.drop_left' (by simp), List.take_left' rfl]
  · have hlenTake : ((framed k key body).take n).length = n := by rw [List.length_take, framed_length]; omega
    simp only [hread n (Nat.le_of_lt hn), extentReached, extentLost, hlenTake]
    constructor
    · by_cases h6 : 6 < n
      · rw [numAt_take _ (by omega), hcount]
        simp [h6, Nat.ne_of_lt hn]
      · simp [h6]
    · by_cases h6 : n = 6
      · rw [numAt_take _ (by omega), hcount]
        simp [Config.longestBody]
        omega
      · simp [h6]

end

section
/-! PROOFS. The bodies that the scheduler builds, and what a receiver reads of them (R34, R38, R44 to R46). -/

namespace Sys2Proof.Machine

open Sys2Proof.Safety

variable {s : State}

/-! ### ANSWER bodies (R38, R45) -/

theorem length_answerEntryBytes (a : AnswerEntry) : (answerEntryBytes a).length = 3 := rfl

/-- An entry is read back from its three bytes, its e fitting its 19 bits. -/
theorem answerEntries_cons (a : AnswerEntry) (rest : List Byte) (he : a.e < 2 ^ 19) :
    answerEntries (answerEntryBytes a ++ rest) = a :: answerEntries rest := by
  obtain ⟨seat, choice, e⟩ := a
  have hseat := seat.isLt
  have hchoice := choice.isLt
  simp only [Nat.reducePow] at he
  have hlead : (byteOf (seat.val * 32 + choice.val * 8 + e / 65536 % 8)).toNat
      = seat.val * 32 + choice.val * 8 + e / 65536 % 8 := byteOf_toNat (by omega)
  have hhigh : (byteOf (e / 256)).toNat = e / 256 % 256 := BitVec.toNat_ofNat _ _
  have hlow : (byteOf e).toNat = e % 256 := BitVec.toNat_ofNat _ _
  simp only [answerEntryBytes, List.cons_append, List.nil_append, answerEntries, hlead, hhigh, hlow, List.cons.injEq,
    AnswerEntry.mk.injEq, and_true]
  exact ⟨Fin.ext (by simp only; omega), Fin.ext (by simp only; omega), by omega⟩

theorem answerEntries_flatMap {l : List AnswerEntry} (h : ∀ a ∈ l, a.e < 2 ^ 19) :
    answerEntries (l.flatMap answerEntryBytes) = l := by
  induction l with
  | nil => rfl
  | cons a l ih =>
    rw [List.flatMap_cons, answerEntries_cons a _ (h a (by simp)), ih fun b hb => h b (by simp [hb])]

/-- The entries of the pending list as an ANSWER carries them (R45). -/
def sentAnswers (l : List PendingAnswer) : List AnswerEntry :=
  l.map fun a => { seat := a.seat, choice := a.choice, e := a.e }

theorem answerBody_eq (question : Nat) (s : State) :
    answerBody question s
      = [byteOf question, ownTeamByte s] ++ (sentAnswers s.sched.answers).flatMap answerEntryBytes := by
  simp [answerBody, sentAnswers, List.flatMap_map]

theorem length_flatMap_const {α : Type} (n : Nat) {g : α → List Byte} (hg : ∀ a, (g a).length = n) (l : List α) :
    (l.flatMap g).length = n * l.length := by
  simp [List.length_flatMap, hg, Nat.mul_comm]

/-- The own team byte names the strapped team (R44, R31). -/
theorem clampTeam_ownTeamByte {k : Team} (h : s.straps.role = .desk k) : clampTeam (ownTeamByte s).toNat = k := by
  have hk := k.isLt
  rw [ownTeamByte, h, roleCode, byteOf_toNat (by omega)]
  apply Fin.ext
  simp only [clampTeam]
  omega

/-! ### TALLY bodies (R34, R38, R46) -/

/-- The two bytes of each value of a list stand at its place. -/
theorem byteAt_flatMap_bytes2 {α : Type} (g : α → BitVec 16) {l : List α} {i : Nat} {a : α} (h : l[i]? = some a) :
    byteAt (l.flatMap fun a => bytes2 (g a)) (2 * i) = (g a).extractLsb' 8 8
      ∧ byteAt (l.flatMap fun a => bytes2 (g a)) (2 * i + 1) = (g a).extractLsb' 0 8 := by
  induction l generalizing i with
  | nil => simp at h
  | cons b l ih =>
    cases i with
    | zero =>
      obtain rfl : b = a := by simpa using h
      exact ⟨rfl, rfl⟩
    | succ i =>
      obtain ⟨hhigh, hlow⟩ := ih (by simpa using h)
      rw [List.flatMap_cons, byteAt_append_right _ (by simp), byteAt_append_right _ (by simp; omega)]
      exact ⟨by simpa [Nat.mul_succ] using hhigh, by simpa [Nat.mul_succ, Nat.add_right_comm] using hlow⟩

theorem length_packStreaks (l : List Nat) : (packStreaks l).length = (l.length + 1) / 2 := by
  induction l using packStreaks.induct with
  | case1 a b rest ih => simp only [packStreaks, List.length_cons, ih]; omega
  | case2 a => simp [packStreaks]
  | case3 => rfl

/-- A streak stands in the half byte of its place, the first of each pair in the high one (R34). -/
theorem packStreaks_half {l : List Nat} (hl : ∀ n ∈ l, n ≤ 15) {i n : Nat} (h : l[i]? = some n) :
    (if i % 2 = 0 then numAt (packStreaks l) (i / 2) / 16 else numAt (packStreaks l) (i / 2) % 16) = n := by
  induction l using packStreaks.induct generalizing i with
  | case1 a b rest ih =>
    have ha := hl a (by simp)
    have hb := hl b (by simp)
    have hpair : numAt (packStreaks (a :: b :: rest)) 0 = a * 16 + b := byteOf_toNat (by omega)
    match i with
    | 0 =>
      obtain rfl : a = n := by simpa using h
      simp [hpair]
      omega
    | 1 =>
      obtain rfl : b = n := by simpa using h
      simp [hpair]
      omega
    | i + 2 =>
      have ih := ih (fun m hm => hl m (by simp [hm])) (i := i) (by simpa using h)
      have hplace : (i + 2) / 2 = i / 2 + 1 := by omega
      have hnext : numAt (packStreaks (a :: b :: rest)) (i / 2 + 1) = numAt (packStreaks rest) (i / 2) := rfl
      rw [Nat.add_mod_right, hplace, hnext]
      exact ih
  | case2 a =>
    have ha := hl a (by simp)
    match i with
    | 0 =>
      obtain rfl : a = n := by simpa using h
      have hpair : numAt (packStreaks [a]) 0 = a * 16 := byteOf_toNat (by omega)
      simp [hpair]
    | i + 1 => simp at h
  | case3 => simp at h

/-- The low half of an odd last streak byte is 0 (R34). -/
theorem packStreaks_odd {l : List Nat} (hl : ∀ n ∈ l, n ≤ 15) (hodd : l.length % 2 = 1) :
    numAt (packStreaks l) (l.length / 2) % 16 = 0 := by
  induction l using packStreaks.induct with
  | case1 a b rest ih =>
    have ih := ih (fun m hm => hl m (by simp [hm])) (by simp at hodd; omega)
    have hplace : (a :: b :: rest).length / 2 = rest.length / 2 + 1 := by simp; omega
    have hnext : numAt (packStreaks (a :: b :: rest)) (rest.length / 2 + 1) = numAt (packStreaks rest) (rest.length / 2) :=
      rfl
    rw [hplace, hnext]
    exact ih
  | case2 a =>
    have ha := hl a (by simp)
    have hpair : numAt (packStreaks [a]) 0 = a * 16 := byteOf_toNat (by omega)
    simp [hpair]
  | case3 => simp at hodd

theorem seatsBelow_place : ∀ c : Fin 9, (seatsBelow c.val).length = c.val
    ∧ ∀ i : Seat, i.val < c.val → (seatsBelow c.val)[i.val]? = some i := by decide

/-- The own seats' totals and streaks, in seat order (R46). -/
def ownScores (s : State) : List (Int × Nat) := (seatsBelow s.straps.seatCount).map (ownScore s)

theorem tallyBody_eq (s : State) : tallyBody s
    = [byteOf s.engine.showNo, byteOf s.engine.lastNo, ownTeamByte s, byteOf s.straps.seatCount]
      ++ ((ownScores s).flatMap fun p => bytes2 (BitVec.ofInt 16 p.1)) ++ packStreaks ((ownScores s).map (·.2)) := rfl

theorem ownScore_eq (s : State) (seat : Seat) :
    (ownScore s seat).1 = ((recordOf s s.straps.station seat).map (·.total)).getD 0
      ∧ (ownScore s seat).2 = ((recordOf s s.straps.station seat).map (·.streak)).getD 0 := by
  unfold ownScore
  split <;> simp_all

theorem ownStreaks_le (hrange : ∀ r ∈ s.score.records, recordInRange r) :
    ∀ n ∈ (ownScores s).map (·.2), n ≤ 15 := by
  intro n hn
  obtain ⟨p, hp, rfl⟩ := List.mem_map.mp hn
  obtain ⟨seat, -, rfl⟩ := List.mem_map.mp hp
  unfold ownScore
  split
  · next r hr =>
    obtain ⟨-, -, hstreak, -⟩ := hrange r (recordOf_some s hr).1
    exact hstreak
  · decide

section Tally

variable {k : Team} (hmost : s.straps.seatCount ≤ 8) (hrange : ∀ r ∈ s.score.records, recordInRange r)
include hmost

theorem length_ownScores : (ownScores s).length = s.straps.seatCount := by
  simpa [ownScores] using (seatsBelow_place ⟨s.straps.seatCount, by omega⟩).1

theorem ownScores_place {seat : Seat} (h : seat.val < s.straps.seatCount) :
    (ownScores s)[seat.val]? = some (ownScore s seat) := by
  simp [ownScores, (seatsBelow_place ⟨s.straps.seatCount, by omega⟩).2 seat h]

theorem length_totals :
    ((ownScores s).flatMap fun p => bytes2 (BitVec.ofInt 16 p.1)).length = 2 * s.straps.seatCount := by
  rw [length_flatMap_const 2 (fun _ => rfl), length_ownScores hmost]

theorem length_tallyBody :
    (tallyBody s).length = 4 + 2 * s.straps.seatCount + (s.straps.seatCount + 1) / 2 := by
  rw [tallyBody_eq, List.length_append, List.length_append, length_totals hmost, length_packStreaks, List.length_map,
    length_ownScores hmost]
  rfl

/-- A byte of the totals. -/
theorem tallyBody_totals {i : Nat} (h : i < 2 * s.straps.seatCount) :
    byteAt (tallyBody s) (4 + i) = byteAt ((ownScores s).flatMap fun p => bytes2 (BitVec.ofInt 16 p.1)) i := by
  have hlen := length_totals hmost
  rw [tallyBody_eq, byteAt_append_left _ (by rw [List.length_append, hlen]; simp; omega),
    byteAt_append_right _ (by simp)]
  simp

/-- A byte of the streaks. -/
theorem tallyBody_streaks (i : Nat) :
    numAt (tallyBody s) (4 + 2 * s.straps.seatCount + i) = numAt (packStreaks ((ownScores s).map (·.2))) i := by
  have hlen := length_totals hmost
  rw [numAt, tallyBody_eq, byteAt_append_right _ (by rw [List.length_append, hlen]; simp), List.length_append, hlen]
  simp [numAt]

include hrange

/-- What is read of a seat's total is what is held: a 16-bit number holds every total in range. -/
theorem tallyTotal_tallyBody {seat : Seat} (h : seat.val < s.straps.seatCount) :
    tallyTotal (tallyBody s) seat.val = (ownScore s seat).1 := by
  have hbounds : -9999 ≤ (ownScore s seat).1 ∧ (ownScore s seat).1 ≤ 29999 := by
    unfold ownScore
    split
    · next r hr =>
      obtain ⟨hlow, hhigh, -⟩ := hrange r (recordOf_some s hr).1
      exact ⟨hlow, hhigh⟩
    · decide
  obtain ⟨hhigh, hlow⟩ :=
    byteAt_flatMap_bytes2 (fun p : Int × Nat => BitVec.ofInt 16 p.1) (ownScores_place hmost h)
  rw [tallyTotal, Nat.add_right_comm 4 1, Nat.add_assoc 4 _ 1, tallyBody_totals hmost (by omega),
    tallyBody_totals hmost (by omega), hhigh, hlow, bytes2_append]
  have hvalue : (BitVec.ofInt 16 (ownScore s seat).1).toInt = (ownScore s seat).1 := by
    rw [BitVec.toInt_ofInt]
    exact Int.bmod_eq_of_le (by omega) (by omega)
  rw [hvalue, clampTotal, Config.totalFloor, Config.totalTop]
  omega

theorem tallyStreak_tallyBody {seat : Seat} (h : seat.val < s.straps.seatCount) :
    tallyStreak (tallyBody s) s.straps.seatCount seat.val = (ownScore s seat).2 := by
  have hplace : ((ownScores s).map (·.2))[seat.val]? = some (ownScore s seat).2 := by
    simp [ownScores_place hmost h]
  simpa [tallyStreak, tallyBody_streaks hmost] using packStreaks_half (ownStreaks_le hrange) hplace

theorem tallyBody_oddHalf (hodd : s.straps.seatCount % 2 = 1) :
    numAt (tallyBody s) (3 + 2 * s.straps.seatCount + (s.straps.seatCount + 1) / 2) % 16 = 0 := by
  have hlen : ((ownScores s).map (·.2)).length = s.straps.seatCount := by simp [length_ownScores hmost]
  have hplace : 3 + 2 * s.straps.seatCount + (s.straps.seatCount + 1) / 2
      = 4 + 2 * s.straps.seatCount + s.straps.seatCount / 2 := by omega
  rw [hplace, tallyBody_streaks hmost]
  simpa [hlen] using packStreaks_odd (ownStreaks_le hrange) (by rw [hlen]; exact hodd)

end Tally

end Sys2Proof.Machine
end

section

open Sys2Proof Sys2Proof.Machine Sys2Proof.Safety

/-- Settles O9: the builder's own equation for each kind, with the strapped team of a desk. -/
theorem bodyIsBuiltFromEntryAndState : Obligations.BodyIsBuiltFromEntryAndState := by
  intro e s
  refine ⟨fun h => ?_, fun h => ?_, fun h => ?_, fun h => ?_, fun h => ?_, fun h => ?_, fun h => ?_, fun k h hk => ?_,
    fun k h hk => ?_, fun h => ?_⟩
  case refine_2 => rcases h with h | h | h <;> simp [buildBody, h]
  case refine_9 => simp [buildBody, h, answerBody, answerEntryBytes, ownTeamByte, hk, roleCode]
  case refine_8 => simp [buildBody, h, ownTeamByte, hk, roleCode]
  all_goals simp [buildBody, h, sentMode]

/-- Settles O10: the entries of an ANSWER are read back three bytes at a time, the totals of a TALLY two bytes at a time
and its streaks in their half bytes. -/
theorem answerAndTallyBodiesReadBack : Obligations.AnswerAndTallyBodiesReadBack := by
  refine ⟨fun question s he => ⟨?_, ?_, fun k hk => ?_⟩, fun body count i => ⟨rfl, rfl⟩,
    fun s k hk hleast hmost hrange => ⟨length_tallyBody hmost, rfl, rfl, fun h => byteOf_toNat (by omega),
      fun h => byteOf_toNat (by omega), ?_, ?_, ?_, ?_⟩⟩
  · rw [answerBody_eq, List.length_append, length_flatMap_const 3 length_answerEntryBytes]
    simp [sentAnswers]
  · rw [answerBody_eq]
    exact answerEntries_flatMap (by simpa [sentAnswers] using he)
  · exact clampTeam_ownTeamByte hk
  · exact byteOf_toNat (by omega)
  · exact clampTeam_ownTeamByte hk
  · exact tallyBody_oddHalf hmost hrange
  · intro seat hseat
    rw [tallyTotal_tallyBody hmost hrange hseat, tallyStreak_tallyBody hmost hrange hseat]
    exact ownScore_eq s seat

end

section
/-! PROOFS. The theatre line while it is quiet, at its start bits and characters, and the own frame that ends without a
verdict (R4 to R12, R43, R48 to R50, R69 to R72). -/

namespace Sys2Proof.Machine

open Sys2Proof.Safety

variable {s u : State} {e : TxEntry}

/-! ### The settling of a transmitter at work and on a line that is not IDLE -/

theorem settleTx_busy (h : ¬atRest s.line.tx) : settleTx s = s := by
  rcases settleTx_cases s with h' | ⟨hrest, -⟩ | ⟨hrest, -⟩
  · exact h'
  · exact absurd hrest h
  · exact absurd hrest h

/-- Off an IDLE line the settling moves nothing of the line and the queue but the state of a transmitter at rest. -/
theorem settle_line_dominant (h : lineIdle s = false) : ∃ tx, (settle s).line = { s.line with tx := tx }
    ∧ (¬atRest s.line.tx → tx = s.line.tx) ∧ (settle s).sched = s.sched := by
  rw [settle_line, settle_sched]
  by_cases hrest : atRest s.line.tx
  · rw [settleTx_atRest hrest]
    simp only [h, Bool.false_eq_true, if_false]
    split
    · exact ⟨.silent, rfl, fun hn => absurd hrest hn, rfl⟩
    · exact ⟨_, rfl, fun hn => absurd hrest hn, rfl⟩
  · rw [settleTx_busy hrest]
    exact ⟨s.line.tx, rfl, fun _ => rfl, rfl⟩

theorem lineIdle_unsettled (h : s.line.level = .unsettled) : lineIdle s = false := by
  simp [lineIdle, h]

/-- A frame that starts within a command is what the command ends with: the transmitter is at work. -/
theorem startFrame_settled (h : offered s = some e) :
    changesOnly [.line, .sched, .link] s (settle (startFrame e s)) ∧ frameStarts e s (settle (startFrame e s)) := by
  have hbusy : settleTx (startFrame e s) = startFrame e s := settleTx_busy (by simp [atRest, startFrame])
  refine ⟨linkOnly_trans ?_ (settle_linkOnly _),
    frameStarts_congr (startFrame_starts h) (by rw [settle_line, hbusy]) (by rw [settle_sched, hbusy])⟩
  simp [linkOnly, changesOnly, startFrame]

/-! ### The quiet line (R4, R9, R10, R72) -/

theorem exec_idle (hheld : s.held = false) (hlevel : s.line.level = .unsettled ∨ s.line.level = .pulse)
    (hfault : s.line.fault = false) (hrx : s.line.rx = .waitIdle ∨ s.line.rx = .hunt ∨ s.line.rx = .syn1)
    (htx : atRest s.line.tx) :
    exec .idle s = .next (settle { s with
      line := { s.line with
        level := .idle, idleSince := some s.clock.now, disturbed := false
        rx := if s.line.rx = .waitIdle then .hunt else s.line.rx }
      roster := { s.roster with watchFired := false } }) := by
  have hawaits : awaitsIdle s.line.rx = true := by rcases hrx with h | h | h <;> rw [h] <;> rfl
  have hquiet : s.line.tx.isBusy = false := by rcases htx with h | h | h <;> rw [h] <;> rfl
  exact event_next hheld (occasion_eq_some.mpr ⟨by simpa [hawaits, hquiet, hfault] using hlevel, rfl⟩)

theorem exec_quietStart (hheld : s.held = false) (htx : s.line.tx = .defer) (hquiet : s.store.health = .quiet)
    (hidle : lineIdle s = true) (hsend : maySend s = true) (he : offered s = some e) :
    exec .quietStart s = .next (settle (startFrame e s)) :=
  event_next hheld (by simp [quietStartEffect, occasion, htx, hquiet, hidle, hsend, he])

theorem exec_longIdle (hheld : s.held = false) (hlevel : s.line.level = .idle) :
    exec .longIdle s = .next (settle (countLongIdle { s with line := { s.line with level := .longIdle } })) :=
  event_next hheld (occasion_eq_some.mpr ⟨by simpa using hlevel, rfl⟩)

/-! ### Start bits (R8, R9, R10) -/

theorem goDominant_eq (h : s.line.level ≠ .stuck) :
    goDominant s = { s with line := { s.line with level := .unsettled, idleSince := none } } := by
  simp [goDominant, h]

/-- The receiver is one that may join a frame at its start edge. -/
theorem awaitsIdle_iff (rx : Receiver) : awaitsIdle rx = true ↔ rx = .waitIdle ∨ rx = .hunt ∨ rx = .syn1 := by
  cases rx <;> simp [awaitsIdle]

theorem exec_startEdge_followed (hheld : s.held = false) {fresh : Bool} (hlevel : s.line.level ≠ .stuck)
    (hjoins : ¬(fresh = true ∧ s.line.tx = .ready ∧ s.store.health ≠ .quiet ∧ maySend s = true
      ∧ (s.line.rx = .waitIdle ∨ s.line.rx = .hunt ∨ s.line.rx = .syn1) ∧ (offered s).isSome = true)) :
    exec (.startEdgeSeen fresh) s = .next (settle (followEdge (goDominant s))) := by
  refine event_next hheld (occasion_eq_some.mpr ⟨by simpa using hlevel, ?_⟩)
  rw [← awaitsIdle_iff] at hjoins
  split
  · next h =>
    simp only [Bool.and_eq_true, decide_eq_true_eq] at h
    obtain ⟨⟨⟨⟨hfresh, htx⟩, hhealth⟩, hsend⟩, hrx⟩ := h
    split
    · next he => exact absurd ⟨hfresh, htx, hhealth, hsend, hrx, by simp [he]⟩ hjoins
    · rfl
  · rfl

theorem exec_startEdge_joined (hheld : s.held = false) (hlevel : s.line.level ≠ .stuck) (htx : s.line.tx = .ready)
    (hhealth : s.store.health ≠ .quiet) (hsend : maySend s = true)
    (hrx : s.line.rx = .waitIdle ∨ s.line.rx = .hunt ∨ s.line.rx = .syn1) (he : offered s = some e) :
    exec (.startEdgeSeen true) s = .next (settle (startFrame e s)) := by
  have hsame : startFrame e (goDominant s) = startFrame e s := by rw [goDominant_eq hlevel]; rfl
  refine event_next hheld (occasion_eq_some.mpr ⟨by simpa using hlevel, ?_⟩)
  simp [htx, hhealth, hsend, (awaitsIdle_iff _).mpr hrx, he, hsame]

theorem exec_missingStart (hheld : s.held = false) {f : Partial} (hrx : s.line.rx = .frame f ∨ s.line.rx = .adriftExtent f) :
    exec .missingStartBit s = .next (settle (openWindow f .faultVeto s)) :=
  event_next hheld (by rcases hrx with h | h <;> simp [missingStartEffect, h])

end Sys2Proof.Machine
end

section

open Sys2Proof Sys2Proof.Machine Sys2Proof.Safety

/-- Settles O11: the effects of IDLE, QUIET_START and LONG_IDLE where their occasions stand, the count of an OFF station
split at 32. -/
theorem idleLineIsMeasuredAndUsed : Obligations.IdleLineIsMeasuredAndUsed := by
  refine ⟨⟨fun s hheld hlevel hfault hrx htx => exec_idle hheld hlevel hfault hrx htx,
    fun s e hheld htx hquiet hidle hsend he => ?_⟩, fun s hheld hlevel => ⟨fun hhealth => ?_, fun hoff hcount => ?_,
    fun hoff hcount => ?_⟩⟩
  · exact ⟨_, exec_quietStart hheld htx hquiet hidle hsend he, startFrame_settled he⟩
  all_goals rw [exec_longIdle hheld hlevel]
  · simp [countLongIdle, hhealth]
  · simp [countLongIdle, hoff, Config.offRecovery, hcount]
  · simp [countLongIdle, hoff, Config.offRecovery, Nat.not_lt.mpr hcount, setHealth, raiseIf]

/-- Settles O12: a start edge is joined where every condition of the offer stands and followed otherwise; a missing
start bit opens the window of a fault veto. -/
theorem startBitsSeenAndMissing : Obligations.StartBitsSeenAndMissing := by
  refine ⟨fun s fresh hheld hlevel => ⟨fun hjoins => ?_, fun e hfresh htx hhealth hsend hrx he => ?_⟩,
    fun s f hheld hrx => ?_⟩
  · rw [exec_startEdge_followed hheld hlevel hjoins, followEdge_eq, goDominant_eq hlevel]
  · subst hfresh
    exact ⟨_, exec_startEdge_joined hheld hlevel htx hhealth hsend hrx he, startFrame_settled he⟩
  · rw [exec_missingStart hheld hrx]
    rfl

end

section
/-! PROOFS. Characters on the line and at the receiver, and the tables of the shape tests, the veto decision and the
health states (R2, R6, R7, R9, R11, R15, R27, R29, R59, R67, R70). -/

namespace Sys2Proof.Machine

open Sys2Proof.Safety

variable {s u : State}

/-! ### The ten levels of a byte (R2) -/

theorem getLsbD_lineChar (b : Byte) (i : Nat) :
    (lineChar b).getLsbD i = if i = 0 then true else b.getLsbD (i - 1) := by
  simp only [lineChar, BitVec.getLsbD_append]
  rcases i with _ | i
  · simp
  · simp
    exact BitVec.lt_of_getLsbD

/-- Of two bytes the lower has a dominant level where they first differ, the most significant bit going first. -/
theorem lower_first_dominant {a b : Byte} (h : a < b) :
    ∃ i < 8, a.getLsbD i = false ∧ b.getLsbD i = true ∧ ∀ j, i < j → a.getLsbD j = b.getLsbD j := by
  have hne : a.toNat ^^^ b.toNat ≠ 0 := fun h0 => by
    have := Nat.xor_eq_zero_iff.mp h0
    have : a.toNat < b.toNat := h
    omega
  obtain ⟨i, hi, hafter⟩ := Nat.exists_most_significant_bit hne
  have hsame : ∀ j, i < j → a.toNat.testBit j = b.toNat.testBit j := fun j hj => by
    simpa [Nat.testBit_xor] using hafter j hj
  have hdiffers : a.toNat.testBit i ≠ b.toNat.testBit i := by simpa [Nat.testBit_xor] using hi
  have hb : b.toNat.testBit i = true := by
    by_contra hb
    have hb : b.toNat.testBit i = false := by simpa using hb
    have ha : a.toNat.testBit i = true := by simpa [hb] using hdiffers
    exact absurd (Nat.lt_of_testBit i hb ha fun j hj => (hsame j hj).symm) (Nat.lt_asymm h)
  have ha : a.toNat.testBit i = false := by simpa [hb] using hdiffers
  refine ⟨i, ?_, ha, hb, hsame⟩
  by_contra hi
  have : b.getLsbD i = false := BitVec.getLsbD_of_ge b i (by omega)
  exact absurd hb (by simpa [BitVec.getLsbD] using this)

/-! ### The receiver at a character (R6, R7) -/

theorem countSent_rx (s : State) : (countSent s).line.rx = s.line.rx := by
  unfold countSent; split <;> rfl

theorem countSent_level (s : State) : (countSent s).line.level = s.line.level := by
  unfold countSent; split <;> rfl

theorem countSent_sent (h : s.line.tx = .arbitrate ∨ s.line.tx = .send) :
    (countSent s).line.sent = s.line.sent + 1
      ∧ (countSent s).line.tx = if s.line.frame.length ≤ s.line.sent + 1 then .awaitVerdict
        else if 6 ≤ s.line.sent + 1 then .send else .arbitrate := by
  rcases h with h | h <;> simp [countSent, h]

theorem frameChar_line (f : Partial) (char : Byte) (framing : Bool) (s : State) :
    (frameChar f char framing s).line = { s.line with rx := (frameChar f char framing s).line.rx } := by
  simp only [frameChar]
  (repeat' split) <;> rfl

/-- A character moves of the line the receiver, and the mark that the own transmitter was disturbed. -/
theorem receiveChar_line (char : Byte) (framing : Bool) (s : State) :
    ∃ rx disturbed, (receiveChar char framing s).line = { s.line with rx := rx, disturbed := disturbed } := by
  simp only [receiveChar]
  split
  · split <;> exact ⟨_, _, rfl⟩
  · split <;> exact ⟨_, _, rfl⟩
  · exact ⟨_, s.line.disturbed, frameChar_line _ char framing s⟩
  · exact ⟨_, _, rfl⟩

/-- What a character completes with, before the settling. -/
def characterRead (char : Byte) (framing : Bool) (s : State) : State :=
  receiveChar char framing (countSent (goDominant s))

theorem exec_character (hheld : s.held = false) (hlevel : s.line.level ≠ .stuck) (char : Byte) (framing : Bool) :
    exec (.characterComplete char framing) s = .next (settle (characterRead char framing s)) :=
  event_next hheld (occasion_eq_some.mpr ⟨by simpa using hlevel, rfl⟩)

/-- The line is dominant at a character, so that the settling leaves the receiver. -/
theorem characterRead_settled (hlevel : s.line.level ≠ .stuck) (char : Byte) (framing : Bool) :
    (settle (characterRead char framing s)).line.rx = (characterRead char framing s).line.rx
      ∧ (settle (characterRead char framing s)).line.sent = (countSent (goDominant s)).line.sent
      ∧ (¬atRest (countSent (goDominant s)).line.tx →
        (settle (characterRead char framing s)).line.tx = (countSent (goDominant s)).line.tx)
      ∧ (settle (characterRead char framing s)).sched = s.sched := by
  obtain ⟨rx, disturbed, hline⟩ := receiveChar_line char framing (countSent (goDominant s))
  have hunsettled : (characterRead char framing s).line.level = .unsettled := by
    rw [characterRead, hline]
    change (countSent (goDominant s)).line.level = _
    rw [countSent_level, goDominant_eq hlevel]
  obtain ⟨tx, hsettled, hwork, hsched⟩ := settle_line_dominant (lineIdle_unsettled hunsettled)
  rw [hsettled, hsched]
  rw [characterRead, hline] at hwork ⊢
  exact ⟨rfl, rfl, hwork, by simp⟩

theorem characterRead_rx (hlevel : s.line.level ≠ .stuck) : (countSent (goDominant s)).line.rx = s.line.rx := by
  rw [countSent_rx, goDominant_eq hlevel]

theorem extentLost_iff (g : Partial) (framing : Bool) :
    extentLost g framing = true ↔ g.chars.length = 6 ∧ (framing = true ∨ 26 < numAt g.chars 5) := by
  simp [extentLost, Config.longestBody]

theorem extentReached_iff (g : Partial) :
    extentReached g = true ↔ 6 < g.chars.length ∧ g.chars.length = 8 + numAt g.chars 5 := by
  simp [extentReached]

theorem decideVeto_congr (h : u.store = s.store) (g : Partial) : decideVeto g u = decideVeto g s := by
  simp [decideVeto, h]

theorem mayVeto_congr (h : u.store = s.store) : mayVeto u = mayVeto s := by
  simp [mayVeto, h]

/-- What a character makes of the receiver and the store, the frame with it read being g: the extent is lost, the
window opens, or the frame goes on (R7, R59, R67). -/
def movesWith (g : Partial) (framing : Bool) (s t : State) : Prop :=
  if g.chars.length = 6 ∧ (framing = true ∨ 26 < numAt g.chars 5) then
    t.line.rx = .adriftExtent g ∧ t.store = s.store
  else if 6 < g.chars.length ∧ g.chars.length = 8 + numAt g.chars 5 then
    t.line.rx = .window { frame := g, decision := decideVeto g s, driven := mayVeto s, held := none }
    ∧ t.store = { s.store with
        busyRun := if decideVeto g s = .busyVeto ∧ mayVeto s = true then s.store.busyRun + 1 else s.store.busyRun }
  else t.line.rx = .frame g ∧ t.store = s.store

theorem frameChar_moves (f : Partial) (char : Byte) (framing : Bool) (h : u.store = s.store) :
    movesWith (readChar f char framing) framing s (frameChar f char framing u) := by
  simp only [frameChar, movesWith]
  generalize readChar f char framing = g
  by_cases hlost : extentLost g framing = true
  · rw [if_pos ((extentLost_iff g framing).mp hlost), if_pos hlost]
    exact ⟨rfl, h⟩
  · rw [if_neg fun hl => hlost ((extentLost_iff g framing).mpr hl), if_neg hlost]
    by_cases hreached : extentReached g = true
    · rw [if_pos ((extentReached_iff g).mp hreached), if_pos hreached]
      simp [openWindow, decideVeto_congr h, mayVeto_congr h, h]
    · rw [if_neg fun hr => hreached ((extentReached_iff g).mpr hr), if_neg hreached]
      exact ⟨rfl, h⟩

theorem characterRead_frame (hlevel : s.line.level ≠ .stuck) {f : Partial} (h : s.line.rx = .frame f) (char : Byte)
    (framing : Bool) : movesWith (readChar f char framing) framing s (characterRead char framing s) := by
  have hread : (countSent (goDominant s)).line.rx = .frame f := (characterRead_rx hlevel).trans h
  have hframe : characterRead char framing s = frameChar f char framing (countSent (goDominant s)) := by
    simp only [characterRead, receiveChar, hread]
  rw [hframe]
  exact frameChar_moves f char framing (by simp)

/-- A character is no clean SYN where its value or its framing is another. -/
theorem notSyn {char : Byte} {framing : Bool} (h : ¬(char = 0xD2 ∧ framing = false)) :
    (decide (char = synByte) && !framing) = false := by
  cases framing <;> simp_all [synByte]

/-! ### The shape tests (R29) -/

/-- The causes found at the last character read, in the order of R29. -/
def causesAt (chars : List Byte) (framing : Bool) : List Cause :=
  (if framing then [Cause.framing] else [])
    ++ (if chars.length - 1 = 4 then kindFaults chars else [])
    ++ (if chars.length - 1 = 5 then lengthFaults chars else [])
    ++ (if chars.length - 1 = 9 then tallyFaults chars else [])
    ++ (if 5 < chars.length - 1 then checkFaults chars else [])

theorem faultsAt_eq (chars : List Byte) (framing : Bool) : faultsAt chars framing
    = (causesAt chars framing).map fun c => { cause := c, position := chars.length - 1 } := rfl

theorem mem_faultsAt (chars : List Byte) (framing : Bool) (c : Cause) :
    ({ cause := c, position := chars.length - 1 } : FaultMark) ∈ faultsAt chars framing ↔ c ∈ causesAt chars framing := by
  simp [faultsAt_eq]

theorem mem_kindFaults (chars : List Byte) (c : Cause) : c ∈ kindFaults chars
    ↔ c = .kind ∧ kindOfCode (byteAt chars 4) = none
      ∨ c = .shape ∧ ∃ k, kindOfCode (byteAt chars 4) = some k ∧ keyClass (keyOfBytes chars) ≠ kindClass k := by
  unfold kindFaults
  split
  · next h => simp [h]
  · next k h => split <;> simp_all

theorem mem_lengthFaults (chars : List Byte) (c : Cause) : c ∈ lengthFaults chars
    ↔ c = .length ∧ 26 < numAt chars 5
      ∨ c = .shape ∧ numAt chars 5 ≤ 26 ∧ ∃ k, kindOfCode (byteAt chars 4) = some k ∧ numAt chars 5 ∉ kindLengths k := by
  unfold lengthFaults
  simp only [Config.longestBody]
  split
  · next h => simp [h, Nat.not_le.mpr h]
  · next h =>
    split
    · next hk => simp [h, hk]
    · next k hk => split <;> simp_all

theorem mem_tallyFaults (chars : List Byte) (c : Cause) : c ∈ tallyFaults chars
    ↔ c = .shape ∧ kindOfCode (byteAt chars 4) = some .tally ∧ numAt chars 5 ∈ kindLengths .tally
      ∧ (numAt chars 9 = 0 ∨ 8 < numAt chars 9 ∨ numAt chars 5 ≠ tallyLength (numAt chars 9)) := by
  simp only [tallyFaults]
  split
  · next h => simp only [List.mem_singleton, iff_self_and]; exact fun _ => h
  · next h => simpa using fun _ => h

theorem mem_checkFaults (chars : List Byte) (c : Cause) : c ∈ checkFaults chars
    ↔ c = .check ∧ chars.length = 8 + numAt chars 5
      ∧ bytes2 (crc (chars.take (6 + numAt chars 5))) ≠ chars.drop (6 + numAt chars 5) := by
  simp only [checkFaults]
  split
  · next h => simp only [List.mem_singleton, iff_self_and]; exact fun _ => h
  · next h => simpa using fun _ => h

theorem mem_causesAt (chars : List Byte) (framing : Bool) (c : Cause) : c ∈ causesAt chars framing
    ↔ (framing = true ∧ c = .framing) ∨ (chars.length - 1 = 4 ∧ c ∈ kindFaults chars)
      ∨ (chars.length - 1 = 5 ∧ c ∈ lengthFaults chars) ∨ (chars.length - 1 = 9 ∧ c ∈ tallyFaults chars)
      ∨ (5 < chars.length - 1 ∧ c ∈ checkFaults chars) := by
  have hif : ∀ (p : Prop) [Decidable p] (l : List Cause), (c ∈ if p then l else []) ↔ p ∧ c ∈ l := fun p _ l => by
    split <;> simp_all
  simp only [causesAt, List.mem_append, hif, List.mem_singleton]
  tauto

/-- The order of R29 at one position, CHECK last (log entry 7). -/
def causeOrder : List Cause := [.framing, .kind, .length, .shape, .check]

theorem kindFaults_sublist (chars : List Byte) : (kindFaults chars).Sublist [.kind, .length, .shape] := by
  unfold kindFaults
  (repeat' split) <;> decide

theorem lengthFaults_sublist (chars : List Byte) : (lengthFaults chars).Sublist [.kind, .length, .shape] := by
  unfold lengthFaults
  (repeat' split) <;> decide

theorem tallyFaults_sublist (chars : List Byte) : (tallyFaults chars).Sublist [.kind, .length, .shape] := by
  simp only [tallyFaults]
  split <;> decide

theorem checkFaults_sublist (chars : List Byte) : (checkFaults chars).Sublist [.check] := by
  simp only [checkFaults]
  split <;> decide

/-- At most one of the three tests before the check has its place at a character. -/
theorem shapeFaults_sublist (chars : List Byte) : ((if chars.length - 1 = 4 then kindFaults chars else [])
    ++ (if chars.length - 1 = 5 then lengthFaults chars else [])
    ++ (if chars.length - 1 = 9 then tallyFaults chars else [])).Sublist [.kind, .length, .shape] := by
  by_cases h4 : chars.length - 1 = 4
  · simpa [h4] using kindFaults_sublist chars
  · by_cases h5 : chars.length - 1 = 5
    · simpa [h5] using lengthFaults_sublist chars
    · by_cases h9 : chars.length - 1 = 9
      · simpa [h9] using tallyFaults_sublist chars
      · simp [h4, h5, h9]

theorem causesAt_sublist (chars : List Byte) (framing : Bool) : (causesAt chars framing).Sublist causeOrder := by
  have hframing : (if framing then [Cause.framing] else []).Sublist [.framing] := by cases framing <;> decide
  have hcheck : (if 5 < chars.length - 1 then checkFaults chars else []).Sublist [.check] := by
    split
    · exact checkFaults_sublist chars
    · exact List.nil_sublist _
  have hall := (hframing.append (shapeFaults_sublist chars)).append hcheck
  simpa [causesAt, causeOrder] using hall

/-- Two faults are handed in ascending position, and at one position in the order of R29, CHECK left out
(log entry 7). -/
def faultOrder (a b : FaultMark) : Prop :=
  a.position < b.position
    ∨ (a.position = b.position ∧ a.cause ≠ b.cause
      ∧ (a.cause ≠ .check → b.cause ≠ .check →
        [Cause.framing, .kind, .length, .shape].findIdx (fun x => decide (x = a.cause))
          < [Cause.framing, .kind, .length, .shape].findIdx fun x => decide (x = b.cause)))

theorem causeOrder_pairwise : causeOrder.Pairwise fun a b => a ≠ b ∧ (a ≠ .check → b ≠ .check →
    [Cause.framing, .kind, .length, .shape].findIdx (fun x => decide (x = a))
      < [Cause.framing, .kind, .length, .shape].findIdx fun x => decide (x = b)) := by decide

theorem faultsAt_pairwise (chars : List Byte) (framing : Bool) : (faultsAt chars framing).Pairwise faultOrder := by
  rw [faultsAt_eq, List.pairwise_map]
  exact (causeOrder_pairwise.sublist (causesAt_sublist chars framing)).imp fun h => .inr ⟨rfl, h⟩

theorem faultsAt_position {chars : List Byte} {framing : Bool} {m : FaultMark} (h : m ∈ faultsAt chars framing) :
    m.position = chars.length - 1 := by
  rw [faultsAt_eq] at h
  obtain ⟨c, -, rfl⟩ := List.mem_map.mp h
  rfl

/-- The characters of a frame read one after another, each with its framing fault if it has one. -/
def readAll (chars : List (Byte × Bool)) : Partial :=
  chars.foldl (fun f c => readChar f c.1 c.2) { chars := [], faults := [] }

theorem readAll_append (chars : List (Byte × Bool)) (c : Byte × Bool) :
    readAll (chars ++ [c]) = readChar (readAll chars) c.1 c.2 := by
  simp [readAll, List.foldl_append]

theorem readAll_sound (chars : List (Byte × Bool)) :
    (readAll chars).chars = chars.map (·.1) ∧ (∀ m ∈ (readAll chars).faults, m.position < chars.length)
      ∧ (readAll chars).faults.Pairwise faultOrder := by
  induction chars using List.reverseRecOn with
  | nil => simp [readAll]
  | append_singleton chars c ih =>
    obtain ⟨hchars, hpositions, hpairs⟩ := ih
    have hlen : ((readAll chars).chars ++ [c.1]).length - 1 = chars.length := by simp [hchars]
    rw [readAll_append, readChar]
    refine ⟨by simp [hchars], fun m hm => ?_, List.pairwise_append.mpr ⟨hpairs, faultsAt_pairwise _ _, ?_⟩⟩
    · rw [List.length_append, List.length_singleton]
      rcases List.mem_append.mp hm with h | h
      · exact Nat.lt_succ_of_lt (hpositions m h)
      · rw [faultsAt_position h, hlen]
        exact Nat.lt_succ_self _
    · intro a ha b hb
      refine .inl ?_
      rw [faultsAt_position hb, hlen]
      exact hpositions a ha

end Sys2Proof.Machine
end

section

open Sys2Proof Sys2Proof.Machine Sys2Proof.Safety

/-- Settles O13: the levels of a byte from their places in the character, and the receiver's move by its state, the line
being dominant so that the settling leaves it. -/
theorem characterMovesReceiverAndSender : Obligations.CharacterMovesReceiverAndSender := by
  refine ⟨fun b => ⟨?_, fun i hi => ?_, ?_⟩, fun c => ⟨fun i hi => ?_, ?_⟩, fun a b h => ?_,
    fun s char framing hheld hlevel => ⟨_, exec_character hheld hlevel char framing, ?_⟩⟩
  · rw [getLsbD_lineChar]
    exact BitVec.getLsbD_of_ge b 8 (Nat.le_refl 8)
  · simp [getLsbD_lineChar]
  · simp [getLsbD_lineChar]
  · simp [lineByte, hi, Nat.add_comm]
  · simp [lineFraming]
  · obtain ⟨i, hi, ha, hb, hafter⟩ := lower_first_dominant h
    refine ⟨i + 1, by omega, by simpa [getLsbD_lineChar] using ha, by simpa [getLsbD_lineChar] using hb, fun j hj => ?_⟩
    rw [getLsbD_lineChar, getLsbD_lineChar, hafter (j - 1) (by omega)]
  · obtain ⟨hrx, hsent, htx, hsched⟩ := characterRead_settled hlevel char framing
    have hstore : (settle (characterRead char framing s)).store = (characterRead char framing s).store := by simp
    rw [hrx, hstore, hsent]
    refine ⟨?_, fun h hc hf => ?_, fun h hc => ?_, fun h hc hf => ?_, fun h hc => ?_, fun f h => ?_, fun h => ?_,
      fun h => ?_⟩
    case refine_1 => simpa [changesOnly, characterRead] using hsched
    case refine_6 => exact characterRead_frame hlevel h char framing
    case refine_8 =>
      have hsame : (goDominant s).line.tx = s.line.tx ∧ (goDominant s).line.sent = s.line.sent
          ∧ (goDominant s).line.frame = s.line.frame := by rw [goDominant_eq hlevel]; exact ⟨rfl, rfl, rfl⟩
      obtain ⟨hcount, hstate⟩ := countSent_sent (s := goDominant s) (by rwa [hsame.1])
      rw [hsame.2.1, hsame.2.2] at hstate
      rw [hsame.2.1] at hcount
      refine ⟨hcount, hstate ▸ htx ?_⟩
      rw [hstate]
      (repeat' split) <;> simp [atRest]
    all_goals
      have hread : (countSent (goDominant s)).line.rx = s.line.rx := characterRead_rx hlevel
      simp only [characterRead, receiveChar, hread]
    case refine_2 => simp [h, hc, hf, synByte]
    case refine_3 => simp [h, notSyn hc, abandonHunt]
    case refine_4 => simp [h, hc, hf, synByte]
    case refine_5 => simp [h, notSyn hc]
    case refine_7 =>
      rcases h with h | ⟨f, h⟩ | ⟨w, h⟩ | ⟨x, h⟩ <;> simp [h, hread]

/-- Settles O14: the membership of each test's causes in those of a character, and the causes of a character as a
sublist of R29's order. -/
theorem shapeTestsAndVetoDecisionFollowTheirTables : Obligations.ShapeTestsAndVetoDecisionFollowTheirTables := by
  refine ⟨fun chars b k => ⟨kindOfCode_eq_some b k, ?_⟩, fun chars framing => ?_, fun f s => ⟨fun h => ?_, fun h hroom => ?_,
    fun h hfull hrun => ?_, fun h hfull hrun => ?_⟩, fun chars => ?_, fun count => ⟨fun h => ?_, fun h h' => ?_, fun h => ?_⟩,
    fun s => ⟨?_, ?_⟩⟩
  · simp [kindRead, kindOfCode_eq_some]
  · simp only [mem_faultsAt, mem_causesAt, mem_kindFaults, mem_lengthFaults, mem_tallyFaults, mem_checkFaults]
    refine ⟨fun m hm => faultsAt_position hm, ?_⟩
    simp
  · simp [decideVeto, h]
  · simp [decideVeto, h, Config.receivePlaces, hroom]
  · simp [decideVeto, h, Config.receivePlaces, Config.busyRunLimit, Nat.not_lt.mpr hfull, hrun]
  · simp [decideVeto, h, Config.receivePlaces, Config.busyRunLimit, Nat.not_lt.mpr hfull, Nat.not_lt.mpr hrun]
  · obtain ⟨hchars, -, hpairs⟩ := readAll_sound chars
    exact ⟨hchars, hpairs⟩
  · simp [healthOf, Config.activeTop, h]
  · simp [healthOf, Config.activeTop, Config.warningTop, h', Nat.not_le.mpr h]
  · simp [healthOf, Config.activeTop, Config.warningTop, Nat.not_le.mpr h, show ¬count ≤ 95 by omega]
  · simp [mayVeto]
  · simp [maySend]

end

section
/-! PROOFS. The outcomes of the own frame and the health count: what each makes of the line, the scheduler, the store
and the desk link (R11, R12, R47 to R52, R56, R69 to R71). -/

namespace Sys2Proof.Machine

open Sys2Proof.Safety

variable {s u : State} {e : TxEntry}

/-! ### Pending sets (R187) -/

@[simp] theorem pendingOf_nil : pendingOf [] = 0#7 := rfl

@[simp] theorem pendingOf_cons (c : Bool) (n : Notice) (l : List (Bool × Notice)) :
    pendingOf ((c, n) :: l) = (if c = true then BitVec.twoPow 7 (noticeBit n) else 0#7) ||| pendingOf l := rfl

/-! ### The health count (R69 to R71) -/

theorem addHealth_line (n : Nat) (s : State) : (addHealth n s).line = chargedLine n s.store s.line := by
  unfold addHealth chargedLine entersOff
  by_cases hoff : s.store.health = .off
  · simp [hoff]
  · rw [if_neg hoff]
    by_cases h : Config.healthTop < s.store.count + n
    · have henters : s.store.health ≠ .off ∧ 255 < s.store.count + n := ⟨hoff, h⟩
      rw [if_pos h, if_pos (decide_eq_true henters), enterOff_line]
      cases s.line.rx <;> rfl
    · have hstays : ¬(s.store.health ≠ .off ∧ 255 < s.store.count + n) := fun hn => h hn.2
      rw [if_neg h, if_neg (by simpa using hstays), (setHealth_frame _ _).2.2.1]

theorem addHealth_link (n : Nat) (s : State) : (addHealth n s).link = { s.link with
    raised := s.link.raised
      ||| if s.store.health ≠ (chargedStore n s.store).health then BitVec.twoPow 7 (noticeBit .health) else 0 } := by
  unfold addHealth chargedStore
  by_cases hoff : s.store.health = .off
  · simp [hoff]
  · simp only [hoff, if_false, Config.healthTop]
    split
    · simp [enterOff_link, hoff]
    · rw [setHealth_link]

/-! ### The entry in flight (R43, R48 to R50, R56) -/

theorem landed_id (s : State) :
    landed id s = s.sched.queue.map fun x => if x.inFlight then { x with inFlight := false } else x := rfl

theorem answersKept_eq (h : e.discard = false) (s : State) :
    answersKept e s = if e.kind = .answer then s.sched.answers.map fun a => { a with changed := false }
      else s.sched.answers := by
  simp [answersKept, TxEntry.isLiveAnswer, h, clearChanged]

/-- LOST or CLEARED, of an entry that stays (R48). -/
theorem returned_kept (he : inFlight? s = some e) (h : e.discard = false) : returned s = { s with
    sched := {
      queue := s.sched.queue.map fun x => if x.inFlight then { x with inFlight := false } else x
      answers := if e.kind = .answer then s.sched.answers.map fun a => { a with changed := false } else s.sched.answers }
    line := { s.line with frame := [], sent := 0 } } := by
  simp [returned, he, h, answersKept_eq, landed_id, dropBody, setAnswers, setQueue]

/-- LOST or CLEARED, of an entry that a purge has condemned (R56). -/
theorem returned_condemned (he : inFlight? s = some e) (h : e.discard = true) : returned s = { s with
    sched := { s.sched with queue := s.sched.queue.filter fun x => !x.inFlight }
    line := { s.line with frame := [], sent := 0 } } := by
  simp [returned, he, h, withoutFlight, dropBody, setQueue]

theorem returned_none (h : inFlight? s = none) : returned s = s := by
  simp [returned, h]

/-- The entry is dropped as UNDELIVERABLE (R50). -/
def isDropped (e : TxEntry) : Bool := !e.discard && decide (16 ≤ e.retry + 1)

/-- FAULT-VETOED, BUSY-VETOED or DISTURBED (R49, R50, R56). -/
theorem failed_eq (he : inFlight? s = some e) :
    (failed s).sched = failedSched e s.sched ∧ (failed s).line = { s.line with frame := [], sent := 0 }
      ∧ (failed s).link = { s.link with
        faultReason := if isDropped e = true then some .undeliverable else s.link.faultReason
        raised := s.link.raised ||| if isDropped e = true then BitVec.twoPow 7 (noticeBit .fault) else 0 } := by
  unfold failed failedSched isDropped
  cases hd : e.discard with
  | true => simp [he, hd, withoutFlight]
  | false =>
    by_cases hr : 16 ≤ e.retry + 1
    · simp [he, hd, hr, Config.retryLimit, withoutFlight]
    · simp [he, hd, hr, Config.retryLimit, answersKept_eq hd, landed]

theorem inFlight_congr (h : u.sched = s.sched) : inFlight? u = inFlight? s := by simp [inFlight?, h]

theorem failedLink_congr {t : State} (h : failedLink e s u) (hlink : t.link = u.link) (hstore : t.store.health = u.store.health) :
    failedLink e s t := by
  simpa [failedLink, hlink, hstore] using h

/-- A failure charged to the health count (R49, R50, R69, R70). -/
theorem failed_charged (n : Nat) (he : inFlight? s = some e) :
    (failed (addHealth n s)).sched = failedSched e s.sched
      ∧ (failed (addHealth n s)).line = { chargedLine n s.store s.line with frame := [], sent := 0 }
      ∧ (failed (addHealth n s)).store = chargedStore n s.store
      ∧ failedLink e s (failed (addHealth n s)) := by
  have he' : inFlight? (addHealth n s) = some e := (inFlight_congr (by simp)).trans he
  obtain ⟨hsched, hline, hlink⟩ := failed_eq he'
  refine ⟨by rw [hsched]; simp, by rw [hline, addHealth_line], by simp [addHealth_store], ?_⟩
  rw [failedLink, hlink, addHealth_link]
  simp [addHealth_store, isDropped, BitVec.or_assoc]

/-! ### LOST and DISTURBED (R11, R12) -/

theorem exec_lost (hheld : s.held = false) (htx : s.line.tx = .arbitrate) :
    exec .lost s = .next (settle (setTx .silent (returned s))) :=
  event_next hheld (occasion_eq_some.mpr ⟨by simpa using htx, rfl⟩)

/-- What a disturbance makes of the station, before the settling. -/
def disturbance (s : State) : State :=
  let charged := failed (addHealth Config.ownFailureCost
    (recordFault .disturbed (sendingPosition s) (keyReadBack s) s))
  { charged with line := { charged.line with tx := .silent, disturbed := true } }

theorem exec_disturbed (hheld : s.held = false) (htx : s.line.tx = .arbitrate ∨ s.line.tx = .send) :
    exec .disturbed s = .next (settle (disturbance s)) :=
  event_next hheld (occasion_eq_some.mpr ⟨by simpa using htx, rfl⟩)

theorem chargedStore_lastFault (n : Nat) (t : Store) (r : FaultRecord) :
    chargedStore n { t with lastFault := r } = { chargedStore n t with lastFault := r } := by
  unfold chargedStore
  (repeat' split) <;> simp_all

theorem chargedLine_lastFault (n : Nat) (t : Store) (r : FaultRecord) (l : LineIf) :
    chargedLine n { t with lastFault := r } l = chargedLine n t l := rfl

end Sys2Proof.Machine
end

section

open Sys2Proof Sys2Proof.Machine Sys2Proof.Safety

/-- Settles O15: LOST returns the entry, a disturbance charges the count and fails it. -/
theorem lostAndDisturbedFramesKeepTheirEntry : Obligations.LostAndDisturbedFramesKeepTheirEntry := by
  refine ⟨fun s e hheld htx he => ⟨fun h => ?_, fun h => ?_⟩, fun s e hheld htx he =>
    ⟨_, exec_disturbed hheld htx, ?_⟩⟩
  · rw [exec_lost hheld htx, returned_kept he h]
    rfl
  · rw [exec_lost hheld htx, returned_condemned he h]
    rfl
  · obtain ⟨hsched, hline, hstore, hlink⟩ := failed_charged Config.ownFailureCost
      (s := recordFault .disturbed (sendingPosition s) (keyReadBack s) s) (e := e) he
    simp only [recordFault_store, recordFault_line, recordFault_sched, chargedStore_lastFault,
      chargedLine_lastFault] at hsched hline hstore
    refine ⟨by simp [changesOnly, disturbance], ?_, hstore, hsched, hlink⟩
    simp only [disturbance, hline]

end

section
/-! PROOFS. The verdict on a frame: what the take, the faults found and the end of the window each make of the line,
the scheduler, the store, the roster and the desk link (R16 to R18, R47, R60 to R65, R68, R75). -/

namespace Sys2Proof.Machine

open Sys2Proof.Safety

variable {s : State} {w : Window} {k : Kind} {v : Verdict} {stamp : Stamp} {e : TxEntry}

/-! ### The end of the window (R16, R18) -/

/-- A transmitter that reported an outcome is free. -/
def freedTx (tx : TxState) : TxState := if tx = .awaitVerdict then .silent else tx

theorem freedTx_other {tx : TxState} (h : tx ≠ .awaitVerdict) : freedTx tx = tx := if_neg h

/-- A frame that is not taken leaves its window for WAIT-IDLE. -/
theorem leaveWindow_discarded (h : v ≠ .taken) (w : Window) (s : State) : leaveWindow v w s = { s with
    line := { s.line with rx := .waitIdle, disturbed := false, tx := freedTx s.line.tx } } := by
  cases v with
  | taken => exact absurd rfl h
  | faultVetoed | busyVetoed => rfl

theorem leaveWindow_taken (hk : kindRead w.frame.chars = some k) (s : State) : leaveWindow .taken w s = { s with
    line := { takenLine k (givesMark w s) s with
      tx := if k.hasTail && givesMark w s then .mark else freedTx s.line.tx } } := by
  unfold leaveWindow takenLine
  simp only [hk]
  cases k.hasTail <;> simp [freedTx]

/-- A frame on which a fault veto was decided and that the line took all the same: no mark is given. -/
theorem leaveWindow_unread (hd : w.decision = .faultVeto) (s : State) : leaveWindow .taken w s = { s with
    line := { s.line with
      rx := if (kindRead w.frame.chars).any Kind.hasTail then .tail { marks := [], mine := none, before := none }
        else .waitIdle
      disturbed := false
      tx := freedTx s.line.tx } } := by
  cases hk : kindRead w.frame.chars with
  | none => simp [leaveWindow, hk, freedTx]
  | some k =>
    have hmark : givesMark w s = false := by simp [givesMark, hd]
    rw [leaveWindow_taken hk]
    cases ht : k.hasTail <;> simp [takenLine, hmark, ht]

theorem givesMark_clean (h : readsClean w k) : givesMark w s = maySend s := by
  simp [givesMark, h.2.1]

/-! ### The take (R60, R63, R64, R69) -/

theorem subHealth_link : (subHealth s).link = { s.link with
    raised := s.link.raised
      ||| if s.store.health ≠ (fallenStore s.store).health then BitVec.twoPow 7 (noticeBit .health) else 0 } := by
  by_cases h : s.store.health = .off ∨ s.store.count = 0
  · have hfallen : fallenStore s.store = s.store :=
      if_neg fun hc => h.elim hc.1 fun h0 => absurd h0 (Nat.ne_of_gt hc.2)
    simp [subHealth, if_pos h, hfallen]
  · have hfallen : fallenStore s.store = { s.store with
        count := s.store.count - 1, health := healthOf (s.store.count - 1) } :=
      if_pos ⟨fun g => h (.inl g), Nat.pos_of_ne_zero fun g => h (.inr g)⟩
    rw [subHealth, if_neg h, setHealth_link, hfallen]

theorem takeFrame_read (hk : kindRead w.frame.chars = some k) (own : Bool) (s : State) :
    takeFrame own w.frame stamp s
      = storeFrame (placeOf w k stamp) (subHealth (twinTest own (keyOfBytes w.frame.chars) s)) := by
  simp only [takeFrame, hk]
  rfl

theorem twinTest_passed {own : Bool} {key : Key} (h : keyStation key = s.straps.station → own = true) :
    twinTest own key s = s :=
  if_neg fun ⟨hown, hne⟩ => by simp [h hown] at hne

theorem twinTest_failed {key : Key} (h : keyStation key = s.straps.station) : twinTest false key s = setTwin key s :=
  if_pos ⟨h, rfl⟩

theorem fallenStore_queue (t : Store) : (fallenStore t).queue = t.queue := by
  unfold fallenStore
  split <;> rfl

/-- What the storing of a taken frame makes of each block. -/
theorem storeFrame_taken (w : Window) (k : Kind) (stamp : Stamp) (s : State) :
    let u := storeFrame (placeOf w k stamp) (subHealth s)
    u.store = takenStore w k stamp s.store
      ∧ (s.store.queue.length < 4 → u.roster = s.roster
        ∧ onlyRaises [(decide (s.store.health ≠ u.store.health), .health)] s u)
      ∧ (4 ≤ s.store.queue.length → catchUpEnded s u
        ∧ onlyRaises ((decide (s.store.health ≠ u.store.health), .health) :: adriftNotices s) s u) := by
  have hqueue := fallenStore_queue s.store
  by_cases hroom : s.store.queue.length < 4
  · have h : storeFrame (placeOf w k stamp) (subHealth s) = { subHealth s with
        store := { (subHealth s).store with
          queue := (subHealth s).store.queue ++ [placeOf w k stamp], busyRun := 0 } } :=
      if_pos (by rw [subHealth_store, hqueue]; exact hroom)
    rw [h]
    refine ⟨?_, fun _ => ⟨(subHealth_frame s).2.2.2.2.2.2.2.2.2.2.1, ?_⟩, fun hfull => by omega⟩
    · simp only [takenStore, if_pos hroom, subHealth_store, hqueue]
    · simp only [onlyRaises, subHealth_link, subHealth_store, pendingOf_cons, pendingOf_nil, decide_eq_true_eq]
      simp
  · have h : storeFrame (placeOf w k stamp) (subHealth s) = setAdrift (subHealth s) :=
      if_neg (by rw [subHealth_store, hqueue]; exact hroom)
    have hadrift : (fallenStore s.store).adrift = s.store.adrift := by
      unfold fallenStore
      split <;> rfl
    rw [h]
    refine ⟨?_, fun hroom' => absurd hroom' hroom, fun _ => ⟨?_, ?_⟩⟩
    · rw [setAdrift_store, subHealth_store, takenStore, if_neg hroom]
    · rw [catchUpEnded, setAdrift_roster, (subHealth_frame s).2.2.2.2.2.2.2.2.2.2.1]
      rfl
    · simp only [onlyRaises, setAdrift_link, setAdrift_store, subHealth_link, subHealth_store, hadrift,
        adriftNotices, pendingOf_cons, pendingOf_nil, decide_eq_true_eq, (subHealth_frame s).2.2.2.2.2.2.2.2.2.2.1]
      simp [BitVec.or_assoc]

theorem fallenStore_twin (t : Store) : (fallenStore t).twin = t.twin := by
  unfold fallenStore
  split <;> rfl

theorem fallenStore_off_iff (t : Store) : (fallenStore t).health = .off ↔ t.health = .off := by
  unfold fallenStore
  split
  · next h => simp [healthOf_ne_off, h.1]
  · rfl

theorem takenStore_health (w : Window) (k : Kind) (stamp : Stamp) (t : Store) :
    (takenStore w k stamp t).health = (fallenStore t).health := by
  unfold takenStore
  split <;> rfl

theorem takenStore_twin (w : Window) (k : Kind) (stamp : Stamp) (t : Store) :
    (takenStore w k stamp t).twin = t.twin := by
  unfold takenStore
  split <;> exact fallenStore_twin t

/-- A take leaves the station's permission to send. -/
theorem maySend_taken {u : State} (h : u.store = takenStore w k stamp s.store) : maySend u = maySend s := by
  simp [maySend, h, takenStore_health, takenStore_twin, fallenStore_off_iff]

/-- The verdict TAKEN on a clean frame that meets no twin: the take of what `own` says of the own frame, and the end of
the window. -/
def takenBy (w : Window) (k : Kind) (stamp : Stamp) (s : State) : State :=
  leaveWindow .taken w (storeFrame (placeOf w k stamp) (subHealth s))

theorem takenBy_line (h : readsClean w k) : (takenBy w k stamp s).line = { takenLine k (maySend s) s with
    tx := if k.hasTail && maySend s then .mark else freedTx s.line.tx } := by
  have hsend := maySend_taken (storeFrame_taken w k stamp s).1
  rw [takenBy, leaveWindow_taken h.2.2, givesMark_clean h, hsend]
  simp [takenLine]

theorem takenBy_store (w : Window) (k : Kind) (stamp : Stamp) (s : State) :
    (takenBy w k stamp s).store = takenStore w k stamp s.store := by
  simp [takenBy, (storeFrame_taken w k stamp s).1]

theorem takenBy_room (w : Window) (k : Kind) (stamp : Stamp) (h : s.store.queue.length < 4) :
    (takenBy w k stamp s).roster = s.roster
      ∧ onlyRaises [(decide (s.store.health ≠ (takenBy w k stamp s).store.health), .health)] s (takenBy w k stamp s) := by
  simpa [takenBy, onlyRaises] using (storeFrame_taken w k stamp s).2.1 h

theorem takenBy_full (w : Window) (k : Kind) (stamp : Stamp) (h : 4 ≤ s.store.queue.length) :
    catchUpEnded s (takenBy w k stamp s)
      ∧ onlyRaises ((decide (s.store.health ≠ (takenBy w k stamp s).store.health), .health) :: adriftNotices s) s
        (takenBy w k stamp s) := by
  simpa [takenBy, onlyRaises, catchUpEnded] using (storeFrame_taken w k stamp s).2.2 h

/-! ### Whose frame it is (R62, R75) -/

theorem awaitsVerdict_foreign (h : s.line.tx ≠ .awaitVerdict) : awaitsVerdict s = false := by
  simp [awaitsVerdict, h]

theorem awaitsVerdict_own (htx : s.line.tx = .awaitVerdict) (he : inFlight? s = some e) : awaitsVerdict s = true := by
  simp [awaitsVerdict, htx, he]

/-- A clean frame of another station, taken. -/
theorem actVerdict_foreign (h : readsClean w k) (htx : s.line.tx ≠ .awaitVerdict)
    (hkey : keyStation (keyOfBytes w.frame.chars) ≠ s.straps.station) :
    actVerdict .taken w stamp s = takenBy w k stamp s := by
  rw [actVerdict_clean stamp h, awaitsVerdict_foreign htx, if_neg Bool.false_ne_true, takeFrame_read h.2.2,
    twinTest_passed fun hown => absurd hown hkey]
  rfl

/-- A clean frame of another station with the own number, taken. -/
theorem actVerdict_twin (h : readsClean w k) (htx : s.line.tx ≠ .awaitVerdict)
    (hkey : keyStation (keyOfBytes w.frame.chars) = s.straps.station) :
    actVerdict .taken w stamp s = takenBy w k stamp (setTwin (keyOfBytes w.frame.chars) s) := by
  rw [actVerdict_clean stamp h, awaitsVerdict_foreign htx, if_neg Bool.false_ne_true, takeFrame_read h.2.2,
    twinTest_failed hkey]
  rfl

/-- The own clean frame, delivered. -/
theorem actVerdict_own (h : readsClean w k) (htx : s.line.tx = .awaitVerdict) (he : inFlight? s = some e) :
    actVerdict .taken w stamp s = takenBy w k stamp (delivered s) := by
  rw [actVerdict_clean stamp h, awaitsVerdict_own htx he, if_pos rfl, takeFrame_read h.2.2,
    twinTest_passed fun _ => rfl]
  rfl

/-! ### The faults found in a frame (R61, R68, R77) -/

theorem chargedStore_adrift (n : Nat) (t : Store) : (chargedStore n t).adrift = t.adrift := by
  unfold chargedStore
  (repeat' split) <;> rfl

theorem recordedStore_charged (n : Nat) (w : Window) (t : Store) :
    chargedStore n (recordedStore w t) = recordedStore w (chargedStore n t) := by
  unfold recordedStore
  split
  · exact chargedStore_lastFault n t _
  · rfl

/-- `u` is `s` with its last fault record overwritten by the first fault of the frame (R61, R77). -/
theorem faultsFound_own (hd : s.line.disturbed = false) : faultsFound true w.frame s = { s with
    store := recordedStore w s.store } := by
  unfold faultsFound recordedStore
  cases w.frame.faults with
  | nil => rfl
  | cons m rest => simp [hd, recordFault]

theorem faultsFound_counted (hf : w.frame.faults ≠ []) (hd : s.line.disturbed = false) :
    faultsFound false w.frame s = addHealth 1 { s with store := recordedStore w s.store } := by
  unfold faultsFound recordedStore
  cases h : w.frame.faults with
  | nil => exact absurd h hf
  | cons m rest => simp [hd, recordFault]

theorem faultsFound_uncounted {own : Bool} (h : ¬(w.frame.faults ≠ [] ∧ s.line.disturbed = false)) :
    faultsFound own w.frame s = s := by
  unfold faultsFound
  cases hf : w.frame.faults with
  | nil => rfl
  | cons m rest => simp [show s.line.disturbed = true by simpa [hf] using h]

theorem recordedStore_health (w : Window) (t : Store) : (recordedStore w t).health = t.health := by
  unfold recordedStore
  split <;> rfl

theorem recordedStore_adrift (w : Window) (t : Store) : (recordedStore w t).adrift = t.adrift := by
  unfold recordedStore
  split <;> rfl

/-- A fault veto on a frame, not taken. -/
theorem actVerdict_discarded (h : v ≠ .taken) (htx : s.line.tx ≠ .awaitVerdict) :
    actVerdict v w stamp s = leaveWindow v w (faultsFound false w.frame s) := by
  simp [actVerdict, h, awaitsVerdict_foreign htx]

/-- A frame of another station that the line took and the station could not read. -/
theorem actVerdict_unread (hd : w.decision = .faultVeto) (htx : s.line.tx ≠ .awaitVerdict) :
    actVerdict .taken w stamp s = leaveWindow .taken w (setAdrift (faultsFound false w.frame s)) := by
  simp [actVerdict, hd, awaitsVerdict_foreign htx]

/-- What the faults of another station's frame make of each block, counted or not. -/
theorem faultsFound_foreign (w : Window) (s : State) :
    let counts := w.frame.faults ≠ [] ∧ s.line.disturbed = false
    let u := faultsFound false w.frame s
    u.store = (if counts then recordedStore w (chargedStore 1 s.store) else s.store)
      ∧ u.line = (if counts then chargedLine 1 s.store s.line else s.line)
      ∧ u.link = { s.link with raised := s.link.raised
          ||| if s.store.health ≠ u.store.health then BitVec.twoPow 7 (noticeBit .health) else 0 } := by
  by_cases h : w.frame.faults ≠ [] ∧ s.line.disturbed = false
  · have hline : chargedLine 1 (recordedStore w s.store) s.line = chargedLine 1 s.store s.line := by
      unfold recordedStore
      split
      · exact chargedLine_lastFault _ _ _ _
      · rfl
    simp only [faultsFound_counted h.1 h.2, addHealth_store, addHealth_line, addHealth_link, recordedStore_charged,
      recordedStore_health, if_pos h, hline]
    exact ⟨trivial, trivial, trivial⟩
  · simp only [faultsFound_uncounted h, if_neg h]
    simp

theorem chargedLine_tx_other {n : Nat} {t : Store} {l : LineIf} (h : l.tx ≠ .awaitVerdict) :
    (chargedLine n t l).tx ≠ .awaitVerdict := by
  unfold chargedLine
  split
  · simp
  · exact h

/-! ### The own frame (R47, R49) -/

theorem smallestE_le : ∀ {l : List PendingAnswer} {a : PendingAnswer}, a ∈ l → smallestE l ≤ a.e
  | [b], a, h => by rw [List.mem_singleton.mp h]; rfl
  | b :: c :: rest, a, h => by
    rcases List.mem_cons.mp h with rfl | h
    · exact Nat.min_le_left _ _
    · exact (Nat.min_le_right _ _).trans (smallestE_le h)

theorem le_smallestE {n : Nat} : ∀ {l : List PendingAnswer}, l ≠ [] → (∀ a ∈ l, n ≤ a.e) → n ≤ smallestE l
  | [a], _, h => h a (by simp)
  | a :: b :: rest, _, h => Nat.le_min.mpr
      ⟨h a (by simp), le_smallestE (List.cons_ne_nil b rest) fun x hx => h x (List.mem_cons_of_mem a hx)⟩

theorem smallestE_eq {l : List PendingAnswer} {least : PendingAnswer} (hm : least ∈ l) (h : ∀ a ∈ l, least.e ≤ a.e) :
    smallestE l = least.e :=
  Nat.le_antisymm (smallestE_le hm) (le_smallestE (List.ne_nil_of_mem hm) h)

/-- With no live answer entry left, a pending list that is not empty has a new one placed for it (R52). -/
theorem refreshAnswer_fresh {least : PendingAnswer} (question : Nat) (hm : least ∈ s.sched.answers)
    (hleast : ∀ a ∈ s.sched.answers, least.e ≤ a.e) (hnone : s.sched.queue.find? TxEntry.isLiveAnswer = none)
    (hroom : s.sched.queue.length < 12) :
    (refreshAnswer question s).sched.queue = insertByKey {
      kind := .answer, key := mkKey 4 least.e s.straps.station 0, question := question, values := {}
      retry := 0, discard := false, inFlight := false } s.sched.queue := by
  have hsmall := smallestE_eq hm hleast
  unfold refreshAnswer
  cases ha : s.sched.answers with
  | nil => simp [ha] at hm
  | cons a rest =>
    rw [ha] at hsmall
    simp only [hnone, hsmall]
    rw [place_room _ _ hroom]
    rfl

/-- With no pending answer left, no live answer entry stands (R52). -/
theorem refreshAnswer_empty (question : Nat) (h : s.sched.answers = []) :
    (refreshAnswer question s).sched.queue = s.sched.queue.filter fun x => !x.isLiveAnswer := by
  simp [refreshAnswer, h]

theorem refreshAnswer_answers (question : Nat) : (refreshAnswer question s).sched.answers = s.sched.answers := by
  unfold refreshAnswer
  simp only
  split
  · rfl
  · rfl
  · unfold place
    split <;> rfl

theorem delivered_line (he : inFlight? s = some e) : (delivered s).line = { s.line with frame := [], sent := 0 } := by
  simp only [delivered, he]
  split <;> simp

/-- A delivered entry that no pending list stands behind leaves, and nothing else. -/
theorem delivered_plain (he : inFlight? s = some e) (h : e.isLiveAnswer = false) :
    (delivered s).sched = { s.sched with queue := s.sched.queue.filter fun x => !x.inFlight } := by
  simp [delivered, he, h, withoutFlight]

/-- The scheduler after DELIVERED is what R47 says. -/
theorem delivered_sched (he : inFlight? s = some e) : deliveredSched e s (delivered s) := by
  refine ⟨fun h => delivered_plain he (by simpa [TxEntry.isLiveAnswer, or_iff_not_imp_left] using h),
    fun hkind hd hlen hlive => ?_⟩
  obtain ⟨hmem, hfly⟩ := inFlight_some he
  have hroom : (s.sched.queue.filter fun x => !x.inFlight).length < 12 :=
    Nat.lt_of_lt_of_le (List.length_filter_lt_length_iff_exists.mpr ⟨e, hmem, by simp [hfly]⟩) hlen
  have hnone : ∀ x ∈ s.sched.queue.filter fun x => !x.inFlight, x.isLiveAnswer = false := by
    intro x hx
    obtain ⟨hx, hfree⟩ := List.mem_filter.mp hx
    by_contra hl
    have : x.inFlight = true := hlive x hx (by simp_all [TxEntry.isLiveAnswer]) (by simp_all [TxEntry.isLiveAnswer])
    simp [this] at hfree
  have hlv : e.isLiveAnswer = true := by simp [TxEntry.isLiveAnswer, hkind, hd]
  simp only [delivered, he, hlv, if_true]
  refine ⟨by rw [refreshAnswer_answers]; rfl, fun hempty => ?_, fun least hm hleast => ?_⟩
  · rw [refreshAnswer_empty _ hempty]
    exact List.filter_eq_self.mpr fun x hx => by simp [hnone x hx]
  · exact refreshAnswer_fresh _ hm hleast (List.find?_eq_none.mpr fun x hx => by simp [hnone x hx]) hroom

end Sys2Proof.Machine
end

section
/-! PROOFS. The verdict's outcomes settled: frames of other stations, the own frame, and the twin fault (R16 to R18,
R47 to R50, R60 to R77). -/

namespace Sys2Proof.Machine

open Sys2Proof.Safety

variable {s u : State} {w : Window} {k : Kind} {v : Verdict} {stamp : Stamp} {e : TxEntry}

/-! ### Frames of other stations -/

theorem takenBy_changesOnly (w : Window) (k : Kind) (stamp : Stamp) (s : State) :
    changesOnly [.line, .store, .roster, .link] s (takenBy w k stamp s) := by
  simp [changesOnly, takenBy]

theorem takenBy_line_foreign (h : readsClean w k) (htx : s.line.tx ≠ .awaitVerdict) :
    (takenBy w k stamp s).line = takenLine k (maySend s) s := by
  rw [takenBy_line h, freedTx_other htx]
  rfl

/-- Whatever the faults of another station's frame made of the line, the transmitter awaits no verdict. -/
theorem faultsFound_tx (htx : s.line.tx ≠ .awaitVerdict) :
    (faultsFound false w.frame s).line.tx ≠ .awaitVerdict := by
  rw [(faultsFound_foreign w s).2.1]
  split
  · exact chargedLine_tx_other htx
  · exact htx

/-- A frame of another station with a fault veto decided on it, not taken. -/
theorem actVerdict_discarded_blocks (h : v ≠ .taken) (htx : s.line.tx ≠ .awaitVerdict) :
    (actVerdict v w stamp s).store = (faultsFound false w.frame s).store
      ∧ (actVerdict v w stamp s).line
        = { (faultsFound false w.frame s).line with rx := .waitIdle, disturbed := false }
      ∧ (actVerdict v w stamp s).link = (faultsFound false w.frame s).link
      ∧ (actVerdict v w stamp s).roster = s.roster ∧ (actVerdict v w stamp s).sched = s.sched := by
  rw [actVerdict_discarded h htx, leaveWindow_discarded h, freedTx_other (faultsFound_tx htx)]
  simp

theorem actVerdict_unread_blocks (hd : w.decision = .faultVeto) (htx : s.line.tx ≠ .awaitVerdict) :
    (actVerdict .taken w stamp s).store = { (faultsFound false w.frame s).store with adrift := true }
      ∧ (actVerdict .taken w stamp s).line = { (faultsFound false w.frame s).line with
        rx := if (kindRead w.frame.chars).any Kind.hasTail then .tail { marks := [], mine := none, before := none }
          else .waitIdle
        disturbed := false }
      ∧ (actVerdict .taken w stamp s).link = (setAdrift (faultsFound false w.frame s)).link
      ∧ catchUpEnded s (actVerdict .taken w stamp s) ∧ (actVerdict .taken w stamp s).sched = s.sched := by
  have htx' : (setAdrift (faultsFound false w.frame s)).line.tx ≠ .awaitVerdict := by
    rw [(setAdrift_frame _).2.2.1]
    exact faultsFound_tx htx
  rw [actVerdict_unread hd htx, leaveWindow_unread hd, freedTx_other htx']
  simp [setAdrift_store, catchUpEnded, setAdrift_roster, catchUpNone]

/-! ### The own frame -/

/-- What an increase of the count leaves of the line, its receiver and transmitter aside. -/
theorem chargedLine_rest (n : Nat) (t : Store) (l : LineIf) (tx : TxState) (rx : Receiver) :
    { chargedLine n t l with tx := tx, rx := rx } = { l with tx := tx, rx := rx } := by
  unfold chargedLine
  split <;> rfl

theorem chargedLine_freed (n : Nat) (t : Store) {l : LineIf} (h : l.tx = .awaitVerdict) :
    freedTx (chargedLine n t l).tx = .silent := by
  unfold chargedLine
  split <;> simp [freedTx, h]

theorem ownOutcome_failed (hv : v ≠ .taken) (htx : s.line.tx = .awaitVerdict) (he : inFlight? s = some e) :
    (ownOutcome v s).sched = failedSched e s.sched
      ∧ (∀ tx rx, { (ownOutcome v s).line with tx := tx, rx := rx }
        = { s.line with frame := [], sent := 0, tx := tx, rx := rx })
      ∧ freedTx (ownOutcome v s).line.tx = .silent
      ∧ (ownOutcome v s).store = (if v = .faultVetoed then chargedStore 8 s.store else s.store)
      ∧ failedLink e s (ownOutcome v s) := by
  cases v with
  | taken => exact absurd rfl hv
  | faultVetoed =>
    obtain ⟨hsched, hline, hstore, hlink⟩ := failed_charged 8 he
    refine ⟨hsched, fun tx rx => ?_, ?_, hstore, hlink⟩
    · have hrest := chargedLine_rest 8 s.store s.line tx rx
      simp only [LineIf.mk.injEq] at hrest
      simp [ownOutcome, Config.ownFailureCost, hline, hrest]
    · simpa [ownOutcome, Config.ownFailureCost, hline] using chargedLine_freed 8 s.store htx
  | busyVetoed =>
    obtain ⟨hsched, hline, hlink⟩ := failed_eq he
    refine ⟨hsched, fun tx rx => by simp [ownOutcome, hline], ?_, (failed_frame s).2.2.1, ?_⟩
    · simp [ownOutcome, hline, freedTx, htx]
    · rw [failedLink, ownOutcome, hlink]
      simp [isDropped]

/-- The own frame not taken: its faults are recorded, and the transmitter is free. -/
theorem actVerdict_failed (hv : v ≠ .taken) (htx : s.line.tx = .awaitVerdict) (he : inFlight? s = some e)
    (hd : s.line.disturbed = false) :
    (actVerdict v w stamp s).line = { s.line with frame := [], sent := 0, tx := .silent, rx := .waitIdle }
      ∧ (actVerdict v w stamp s).sched = failedSched e s.sched ∧ failedLink e s (actVerdict v w stamp s)
      ∧ (actVerdict v w stamp s).store
        = recordedStore w (if v = .faultVetoed then chargedStore 8 s.store else s.store) := by
  obtain ⟨hsched, hline, hfreed, hstore, hlink⟩ := ownOutcome_failed hv htx he
  have hact : actVerdict v w stamp s = leaveWindow v w (faultsFound true w.frame (ownOutcome v s)) := by
    simp [actVerdict, awaitsVerdict_own htx he, hv]
  have hrest := hline .silent .waitIdle
  simp only [LineIf.mk.injEq] at hrest
  have hdist : (ownOutcome v s).line.disturbed = false := by simp [hrest, hd]
  rw [hact, faultsFound_own hdist, leaveWindow_discarded hv]
  refine ⟨?_, hsched, failedLink_congr hlink rfl (recordedStore_health _ _), by rw [hstore]⟩
  simp [hrest, hfreed, hd]

/-- The own clean frame delivered. -/
theorem actVerdict_delivered (h : readsClean w k) (htx : s.line.tx = .awaitVerdict) (he : inFlight? s = some e) :
    (actVerdict .taken w stamp s).line = { takenLine k (maySend s) s with
        frame := [], sent := 0, tx := if k.hasTail && maySend s then .mark else .silent }
      ∧ (actVerdict .taken w stamp s).sched = (delivered s).sched := by
  have hfreed : freedTx (delivered s).line.tx = .silent := by simp [delivered_line he, freedTx, htx]
  rw [actVerdict_own h htx he]
  refine ⟨?_, by simp [takenBy]⟩
  rw [takenBy_line h, hfreed, takenLine, takenLine, delivered_line he, (delivered_frame s).2.1,
    show maySend (delivered s) = maySend s by simp [maySend]]

/-- The own frame that the line took and the station could not read: delivered, with adrift set. -/
theorem actVerdict_own_unread (hdec : w.decision = .faultVeto) (htx : s.line.tx = .awaitVerdict)
    (he : inFlight? s = some e) (hd : s.line.disturbed = false) :
    actVerdict .taken w stamp s = leaveWindow .taken w (setAdrift { delivered s with
      store := recordedStore w s.store }) := by
  have hdist : (delivered s).line.disturbed = false := by rw [delivered_line he]; exact hd
  simp only [actVerdict, awaitsVerdict_own htx he, hdec, if_true, ownOutcome, ne_eq, not_true, if_false,
    faultsFound_own hdist, (delivered_frame s).2.2.1]

end Sys2Proof.Machine
end

section

open Sys2Proof Sys2Proof.Machine Sys2Proof.Safety

/-- Settles O16: the take, the discard and the verdict held. -/
theorem frameIsTakenOrItsVerdictHeld : Obligations.FrameIsTakenOrItsVerdictHeld := by
  refine ⟨fun s w k c stamp h hclean htx hroom hkey => ⟨_, actsOn_exec h, ?_⟩,
    fun s w v c stamp h hv hfaults htx => ?_, fun s w fh bh hheld hrx hw => ?_⟩
  · rw [actVerdict_foreign hclean htx hkey]
    obtain ⟨hroster, hlink⟩ := takenBy_room w k stamp hroom
    have hframe := takenBy_changesOnly w k stamp s
    refine ⟨by simp_all [changesOnly], ?_, takenBy_line_foreign hclean htx, hlink⟩
    rw [takenBy_store, takenStore, if_pos hroom]
  · rw [actsOn_exec h, actVerdict_discarded hv htx, faultsFound_uncounted (by simp [hfaults]),
      leaveWindow_discarded hv, freedTx_other htx]
  · have hread : readVerdict (fh || w.drivesFault) (bh || w.drivesBusy) = verdictOf w fh bh := by
      cases hd : w.driven <;> cases hc : w.decision <;> cases fh <;> cases bh
        <;> simp [readVerdict, verdictOf, Window.drivesFault, Window.drivesBusy, hd, hc]
    refine event_next hheld ?_
    simp only [verdictEffect, hrx, occasion_eq_some]
    exact ⟨by simp [hw], by rw [hread]; rfl⟩

/-- Settles O17: a taken frame without a place, and a frame with faults in it. -/
theorem unplacedAndUnreadFramesSetAdrift : Obligations.UnplacedAndUnreadFramesSetAdrift := by
  refine ⟨fun s w k c stamp h hclean htx hfull hkey => ⟨_, actsOn_exec h, ?_⟩,
    fun s w v c stamp h hdec htx => ?_⟩
  · rw [actVerdict_foreign hclean htx hkey]
    obtain ⟨hroster, hlink⟩ := takenBy_full w k stamp hfull
    refine ⟨takenBy_changesOnly w k stamp s, ?_, takenBy_line_foreign hclean htx, hroster, hlink⟩
    rw [takenBy_store, takenStore, if_neg (Nat.not_lt.mpr hfull)]
  · obtain ⟨hstore, hline, hlink⟩ := faultsFound_foreign w s
    refine ⟨fun hv => ⟨_, actsOn_exec h, ?_⟩, fun hv => ⟨_, actsOn_exec h, ?_⟩⟩
    · obtain ⟨hs, hl, hk, hr, hq⟩ := actVerdict_discarded_blocks (w := w) (stamp := stamp) hv htx
      refine ⟨by simp [changesOnly, hr, hq], hs.trans hstore, by rw [hl, hline], ?_⟩
      rw [onlyRaises, hk, hlink, hs]
      simp
    · subst hv
      obtain ⟨hs, hl, hk, hr, hq⟩ := actVerdict_unread_blocks (stamp := stamp) hdec htx
      refine ⟨by simp [changesOnly, hq], by rw [hs, hstore], by rw [hl, hline], hr, ?_⟩
      have hadrift : (faultsFound false w.frame s).store.adrift = s.store.adrift := by
        rw [hstore]
        split
        · rw [recordedStore_adrift, chargedStore_adrift]
        · rfl
      rw [onlyRaises, hk, setAdrift_link, hs, hlink, hadrift]
      simp [adriftNotices, BitVec.or_assoc]

/-- Settles O18: the own frame delivered, delivered unread, or failed. -/
theorem verdictSettlesTheOwnFrame : Obligations.VerdictSettlesTheOwnFrame := by
  refine fun s w v c stamp e h htx he hd =>
    ⟨fun k hv hclean => ⟨_, actsOn_exec h, ?_⟩, fun hv hdec => ⟨_, actsOn_exec h, ?_⟩,
      fun hv => ⟨_, actsOn_exec h, ?_⟩⟩
  · subst hv
    obtain ⟨hline, hsched⟩ := actVerdict_delivered (stamp := stamp) hclean htx he
    refine ⟨by simp [changesOnly], hline, by simpa [deliveredSched, hsched] using delivered_sched he, ?_⟩
    rw [actVerdict_own hclean htx he]
    refine ⟨by rw [takenBy_store, (delivered_frame s).2.2.1], fun hroom => ?_, fun hfull => ?_⟩
    · simpa [onlyRaises] using takenBy_room (s := delivered s) w k stamp (by simpa using hroom)
    · simpa [onlyRaises, catchUpEnded, adriftNotices] using
        takenBy_full (s := delivered s) w k stamp (by simpa using hfull)
  · subst hv
    rw [actVerdict_own_unread hdec htx he hd, leaveWindow_unread hdec]
    refine ⟨by simp [changesOnly], ?_, ?_, ?_, ?_, ?_⟩
    · simp [delivered_line he, freedTx, htx, hd]
    · simpa [deliveredSched] using delivered_sched he
    · simp [setAdrift_store]
    · simp [catchUpEnded, setAdrift_roster, catchUpNone]
    · simp [onlyRaises, setAdrift_link, adriftNotices, recordedStore_adrift, BitVec.or_assoc]
  · obtain ⟨hline, hsched, hlink, hstore⟩ := actVerdict_failed (w := w) (stamp := stamp) hv htx he hd
    have hroster : (actVerdict v w stamp s).roster = s.roster := by
      simp [actVerdict, hv, awaitsVerdict_own htx he]
    exact ⟨by simp [changesOnly, hroster], hline, hsched, hlink, hstore⟩

end

section
/-! PROOFS. The twin fault (R75, R76): what sets it, and that only a start clears it. -/

namespace Sys2Proof.Machine

open Sys2Proof.Safety

variable {s u : State} {f : RxEntry} {w : Window} {k : Kind} {stamp : Stamp}

/-! ### What sets it (R75) -/

theorem fallenStore_twinned (t : Store) (r : FaultRecord) :
    fallenStore { t with twin := true, lastFault := r } = { fallenStore t with twin := true, lastFault := r } := by
  unfold fallenStore
  split <;> rfl

theorem takenStore_twinned (w : Window) (k : Kind) (stamp : Stamp) (t : Store) (r : FaultRecord) :
    takenStore w k stamp { t with twin := true, lastFault := r }
      = { takenStore w k stamp t with twin := true, lastFault := r } := by
  unfold takenStore
  split <;> simp [fallenStore_twinned]

theorem setTwin_line (key : Key) (s : State) :
    (setTwin key s).line = { s.line with tx := .silent, rx := stopDriving s.line.rx } := by
  simp [setTwin]

theorem setTwin_link (key : Key) (s : State) : (setTwin key s).link = { s.link with
    raised := s.link.raised ||| BitVec.twoPow 7 (noticeBit .fault), faultReason := some .twin } := by
  simp [setTwin]

/-! ### That it stays (R76) -/

theorem setHealth_twin (h : Health) (s : State) : (setHealth h s).store.twin = s.store.twin := by
  rw [setHealth_store]

theorem addHealth_twin (n : Nat) (s : State) : (addHealth n s).store.twin = s.store.twin := by
  rw [addHealth_store]
  unfold chargedStore
  (repeat' split) <;> rfl

theorem setAdrift_twin (s : State) : (setAdrift s).store.twin = s.store.twin := by
  rw [setAdrift_store]

theorem subHealth_twin (s : State) : (subHealth s).store.twin = s.store.twin := by
  rw [subHealth_store, fallenStore_twin]

theorem storeFrame_twin (f : RxEntry) (s : State) : (storeFrame f s).store.twin = s.store.twin := by
  unfold storeFrame
  split
  · rfl
  · exact setAdrift_twin s

theorem twinTest_twin (own : Bool) (key : Key) (h : s.store.twin = true) : (twinTest own key s).store.twin = true := by
  unfold twinTest
  split
  · simp [setTwin_store]
  · exact h

theorem takeFrame_twin (own : Bool) (p : Partial) (stamp : Stamp) (h : s.store.twin = true) :
    (takeFrame own p stamp s).store.twin = true := by
  unfold takeFrame
  split
  · exact h
  · rw [storeFrame_twin, subHealth_twin]
    exact twinTest_twin own _ h

theorem ownOutcome_twin (v : Verdict) (s : State) : (ownOutcome v s).store.twin = s.store.twin := by
  cases v <;> simp [ownOutcome, addHealth_twin]

theorem faultsFound_twin (own : Bool) (p : Partial) (s : State) :
    (faultsFound own p s).store.twin = s.store.twin := by
  simp only [faultsFound]
  (repeat' split)
  · rfl
  · rfl
  · rfl
  · rw [addHealth_twin]
    rfl

theorem actVerdict_keepsTwin (v : Verdict) (w : Window) (stamp : Stamp) (h : s.store.twin = true) :
    (actVerdict v w stamp s).store.twin = true := by
  have hcounted : (faultsFound (awaitsVerdict s) w.frame
      (if awaitsVerdict s then ownOutcome v s else s)).store.twin = true := by
    rw [faultsFound_twin]
    split
    · rw [ownOutcome_twin]
      exact h
    · exact h
  simp only [actVerdict, (leaveWindow_frame _ v w).2.2.2.1]
  split
  · exact hcounted
  · split
    · rw [setAdrift_twin]
      exact hcounted
    · exact takeFrame_twin _ _ _ hcounted

theorem receiveChar_twin (char : Byte) (framing : Bool) (s : State) :
    (receiveChar char framing s).store.twin = s.store.twin := by
  simp only [receiveChar, frameChar]
  (repeat' split) <;> rfl

theorem countLongIdle_twin (s : State) : (countLongIdle s).store.twin = s.store.twin := by
  unfold countLongIdle
  split
  · rfl
  · split
    · rfl
    · rw [setHealth_twin]

theorem LineEffect.twin (h : LineEffect s u) (ht : s.store.twin = true) : u.store.twin = true := by
  cases h with
  | idle h | clearPulseEnd h | lineFaultClear h =>
    obtain ⟨-, rfl⟩ := occasion_eq_some.mp h
    exact ht
  | startEdge fresh h =>
    obtain ⟨-, rfl⟩ := occasion_eq_some.mp h
    (repeat' split) <;> simpa using ht
  | quietStart h =>
    obtain ⟨-, rfl⟩ := occasion_eq_some.mp h
    split <;> simpa using ht
  | longIdle h =>
    obtain ⟨-, rfl⟩ := occasion_eq_some.mp h
    rwa [countLongIdle_twin]
  | character char framing h =>
    obtain ⟨-, rfl⟩ := occasion_eq_some.mp h
    simpa [receiveChar_twin] using ht
  | missingStart h =>
    unfold missingStartEffect at h
    split at h <;> cases h <;> exact ht
  | lost h =>
    obtain ⟨-, rfl⟩ := occasion_eq_some.mp h
    simpa using ht
  | disturbed h =>
    obtain ⟨-, rfl⟩ := occasion_eq_some.mp h
    simpa [addHealth_twin] using ht
  | verdict fh bh sd h =>
    unfold verdictEffect at h
    split at h
    · obtain ⟨-, rfl⟩ := occasion_eq_some.mp h
      split
      · exact ht
      · exact actVerdict_keepsTwin _ _ _ ht
    · cases h
  | heldVerdict h =>
    unfold heldVerdictEffect at h
    split at h
    · split at h
      · obtain ⟨-, rfl⟩ := occasion_eq_some.mp h
        exact actVerdict_keepsTwin _ _ _ ht
      · cases h
    · cases h
  | tailSlot char framing h =>
    simp only [tailSlotEffect] at h
    (repeat' split at h) <;> cases h <;> exact ht
  | tailEnd h =>
    unfold tailEndEffect at h
    split at h <;> cases h
    exact ht
  | clearPulse h =>
    obtain ⟨-, rfl⟩ := occasion_eq_some.mp h
    split <;> simpa [endTail] using ht
  | stuckLine h =>
    obtain ⟨-, rfl⟩ := occasion_eq_some.mp h
    simpa [addHealth_twin] using ht

theorem dealOf_twin (k : Kind) (f : RxEntry) (s : State) : (dealOf k f s).store.twin = s.store.twin := by
  have h := dealOf_unadrift k f s
  simp only [unadrift, Store.mk.injEq] at h
  exact h.2.2.2.2.2.2.1

theorem Effect.twin {c : Instr} (h : Effect c s u) (ht : s.store.twin = true) : u.store.twin = true := by
  cases h with
  | line h => exact h.twin ht
  | panel h _ => simp_all [panelOnly, changesOnly]
  | timer h => simp_all [timerOnly, changesOnly]
  | press seat p => simpa [pressOf] using ht
  | expiry _ _ => exact ht
  | turn f _ _ _ =>
    exact turnOf_keeps (P := fun t => t.store.twin = true) (by simpa using ht)
      (fun k t hk => (dealOf_twin k f t).trans hk) fun _ hk => hk
  | pass q set _ _ _ => simpa [passCompleted] using ht
  | deadline => simpa using ht
  | watch => simpa using ht
  | link h =>
    have hframe := h.linkOnly
    simp_all [linkOnly, changesOnly]

end Sys2Proof.Machine
end

section

open Sys2Proof Sys2Proof.Machine Sys2Proof.Safety

/-- Settles O19: the twin fault is set by the take of a foreign frame with the own number, and stays. -/
theorem foreignFrameWithOwnNumberSetsTheTwinFault : Obligations.ForeignFrameWithOwnNumberSetsTheTwinFault := by
  refine ⟨fun s w k c stamp h hclean htx hkey => ⟨_, actsOn_exec h, ?_⟩, fun c s t htwin h hpins => ?_⟩
  · have hstore := setTwin_store (s := s) (keyOfBytes w.frame.chars)
    have hline := setTwin_line (keyOfBytes w.frame.chars) s
    have hlink := setTwin_link (keyOfBytes w.frame.chars) s
    have hframe := takenBy_changesOnly w k stamp (setTwin (keyOfBytes w.frame.chars) s)
    have hsend : maySend (setTwin (keyOfBytes w.frame.chars) s) = false := by simp [maySend, hstore]
    have htaken := takenBy_store w k stamp (setTwin (keyOfBytes w.frame.chars) s)
    rw [actVerdict_twin hclean htx hkey]
    refine ⟨by simpa [changesOnly] using hframe, ?_, ?_, fun hroom => ?_, fun hfull => ?_⟩
    · rw [htaken, hstore, takenStore_twinned]
    · rw [takenBy_line hclean, hsend, takenLine, takenLine, hline]
      simp [freedTx]
    · obtain ⟨hroster, hraised⟩ := takenBy_room w k stamp (s := setTwin (keyOfBytes w.frame.chars) s)
        (by rw [hstore]; exact hroom)
      refine ⟨by simpa using hroster, ?_⟩
      rw [hraised, hlink]
      simp [hstore, BitVec.or_assoc]
    · obtain ⟨hended, hraised⟩ := takenBy_full w k stamp (s := setTwin (keyOfBytes w.frame.chars) s)
        (by rw [hstore]; exact hfull)
      refine ⟨by simpa [catchUpEnded] using hended, ?_⟩
      rw [hraised, hlink]
      simp [hstore, adriftNotices, BitVec.or_assoc]
  · by_cases hassert : c = .resetAssert
    · subst hassert
      cases h
      exact htwin
    · rw [exec_eq_event (not_isPower c hassert hpins)] at h
      obtain rfl | ⟨-, u, hu, rfl⟩ := event_cases h
      · exact htwin
      · simpa [settle] using (effectOf_effect hu).twin htwin

end

section
/-! PROOFS. The tail, the clear pulse and the stuck line: what each makes of the line and the store (R19 to R23). -/

namespace Sys2Proof.Machine

open Sys2Proof.Safety

variable {s : State} {t : Tail} {e : TxEntry}

/-! ### The clear pulse (R22) -/

theorem returned_line (s : State) : (returned s).line = { s.line with
    frame := if (inFlight? s).isSome then [] else s.line.frame
    sent := if (inFlight? s).isSome then 0 else s.line.sent } := by
  cases he : inFlight? s with
  | none => simp [returned_none he]
  | some e =>
    cases hd : e.discard with
    | true => simp [returned_condemned he hd]
    | false => simp [returned_kept he hd]

/-- What CLEAR_PULSE makes of the station, before the settling (R22). -/
def pulsed (s : State) : State :=
  { returned s with
    line := { (returned s).line with
      level := .pulse, idleSince := none, rx := .waitIdle, disturbed := false
      tx := if s.line.tx = .clear then .clear else .silent }
    store := match s.line.rx with
      | .tail t => (fillClaim t.marks true s).store
      | _ => s.store }

theorem clearPulseEffect_eq (h : s.line.level ≠ .stuck) : clearPulseEffect s = some (pulsed s) := by
  have hrx : (clearOwn s).line.rx = s.line.rx := by simp [clearOwn, returned_line]
  simp only [clearPulseEffect, hrx, occasion_eq_some]
  refine ⟨by simpa using h, ?_⟩
  unfold pulsed
  cases s.line.rx <;> simp [clearOwn, endTail, fillClaim]

end Sys2Proof.Machine
end

section

open Sys2Proof Sys2Proof.Machine Sys2Proof.Safety

/-- Settles O20: each slot of a tail by what its character is. -/
theorem tailRecordsMarksAndFillsItsPlace : Obligations.TailRecordsMarksAndFillsItsPlace := by
  intro s t hheld hrx
  refine ⟨fun char hbefore hroom => event_next hheld ?_, fun char => event_next hheld ?_,
    fun char hbefore hfull => event_next hheld ?_, fun char hbefore => event_next hheld ?_, event_next hheld ?_⟩
  · simp only [tailSlotEffect, hrx, Bool.false_eq_true, if_false, if_neg hbefore, List.length_append,
      List.length_singleton, Config.tailMarks, if_neg (Nat.not_le.mpr hroom)]
    rfl
  · simp only [tailSlotEffect, hrx, if_true]
    rfl
  · simp only [tailSlotEffect, hrx, Bool.false_eq_true, if_false, if_neg hbefore, List.length_append,
      List.length_singleton, Config.tailMarks, if_pos hfull]
    rfl
  · simp only [tailSlotEffect, hrx, Bool.false_eq_true, if_false, if_pos hbefore]
    rfl
  · simp only [tailEndEffect, hrx]
    rfl

/-- Settles O21: the pulse, its end, the stuck line and the clearing of its condition. -/
theorem clearPulseAndStuckLine : Obligations.ClearPulseAndStuckLine := by
  refine ⟨fun s hheld hlevel => ⟨_, event_next hheld (clearPulseEffect_eq hlevel), ?_⟩,
    fun s hheld htx => event_next hheld (occasion_eq_some.mpr ⟨by simpa using htx, rfl⟩),
    fun s hheld hlevel => ⟨_, event_next hheld (occasion_eq_some.mpr ⟨by simpa using hlevel, rfl⟩), ?_⟩,
    fun s hheld hfault => event_next hheld (occasion_eq_some.mpr ⟨hfault, rfl⟩)⟩
  · refine ⟨by simp [changesOnly, pulsed], by simp [pulsed, returned_line], fun he => by simp [pulsed, returned_none he],
      fun e he hd => by simp [pulsed, returned_kept he hd], fun e he hd => by simp [pulsed, returned_condemned he hd],
      fun hrx => ?_, fun t hrx => by simp [pulsed, hrx]⟩
    unfold pulsed
    cases h : s.line.rx <;> simp_all
  · refine ⟨by simp [changesOnly], ?_, ?_, ?_⟩
    · rw [raiseFault_line, addHealth_line]
      simp only [recordFault_store, recordFault_line, chargedLine_lastFault]
      unfold chargedLine
      split <;> rfl
    · rw [raiseFault_store, addHealth_store, recordFault_store, chargedStore_lastFault]
    · rw [raiseFault_link, addHealth_link]
      simp [addHealth_store, chargedStore_lastFault, BitVec.or_assoc]

end

section
/-! PROOFS. The seat panel: a key's reading as a change of its seat alone, the scan of a seat as the readings of its
keys, and the latch list under a scan (R85 to R87, R93). -/

namespace Sys2Proof.Machine

open Sys2Proof.Safety

variable {s : State} {seat : Seat} {key : PadKey}

/-! ### Fixed tables -/

theorem putAt_self {α : Type} {n : Nat} (v : Vector α n) (i : Fin n) (x : α) : (putAt v i x)[i.val] = x := by
  simp [putAt]

theorem putAt_other {α : Type} {n : Nat} (v : Vector α n) {i j : Fin n} (h : i ≠ j) (x : α) :
    (putAt v i x)[j.val] = v[j.val] := by
  have : i.val ≠ j.val := fun e => h (Fin.ext e)
  simp [putAt, this]

theorem putAt_putAt {α : Type} {n : Nat} (v : Vector α n) (i : Fin n) (x y : α) :
    putAt (putAt v i x) i y = putAt v i y := by
  simp [putAt]

theorem updateSeat_updateSeat (f g : SeatState → SeatState) (s : State) :
    updateSeat seat g (updateSeat seat f s) = updateSeat seat (fun p => g (f p)) s := by
  simp [updateSeat, putAt_self, putAt_putAt]

theorem keyPlace_injective : Function.Injective keyPlace := by
  intro a b h
  cases a with
  | buzz =>
    cases b with
    | buzz => rfl
    | choice d => exact absurd (congrArg Fin.val h) (Nat.succ_ne_zero _).symm
  | choice c =>
    cases b with
    | buzz => exact absurd (congrArg Fin.val h) (Nat.succ_ne_zero _)
    | choice d => exact congrArg PadKey.choice (Fin.ext (Nat.succ_injective (congrArg Fin.val h)))

/-! ### One key's reading as a change of its seat -/

/-- A press joins the latch list at a clock value (R86, R87, R93). -/
def latchIn (now : Stamp) (key : PadKey) (p : SeatState) : SeatState :=
  { p with
    latch := (insertPress { key := key, stamp := now } p.latch).take 4
    flash := if p.latch.length < 4 then p.flash else some (now + 500) }

/-- A key's state is replaced. -/
def keyIn (key : PadKey) (k : KeyState) (p : SeatState) : SeatState := { p with keys := putAt p.keys (keyPlace key) k }

/-- The third opposite reading of a key (R86). -/
def acceptIn (now : Stamp) (key : PadKey) (p : SeatState) : SeatState :=
  let k := p.keys[keyPlace key]
  let changed := keyIn key { pressed := !k.pressed, run := 0 } p
  if k.pressed then changed else latchIn now key changed

/-- One reading of a key (R86). -/
def readIn (now : Stamp) (down : Bool) (key : PadKey) (p : SeatState) : SeatState :=
  let k := p.keys[keyPlace key]
  if down = k.pressed then keyIn key { k with run := 0 } p
  else if k.run < 2 then keyIn key { k with run := k.run + 1 } p
  else acceptIn now key p

theorem latchPress_eq (seat : Seat) (key : PadKey) (s : State) :
    latchPress seat key s = updateSeat seat (latchIn s.clock.now key) s := by
  unfold latchPress
  split
  · next h => simp [updateSeat, latchIn, Config.latchPlaces] at h ⊢; simp [h]
  · next h =>
    rw [flashSeat, updateSeat_updateSeat]
    simp [updateSeat, latchIn, Config.latchPlaces, Config.flashTime] at h ⊢
    simp [Nat.not_lt.mpr h]

theorem setKey_eq (seat : Seat) (key : PadKey) (k : KeyState) (s : State) :
    setKey seat key k s = updateSeat seat (keyIn key k) s := rfl

theorem acceptIn_pressed {p : SeatState} (h : p.keys[keyPlace key].pressed = true) (now : Stamp) :
    acceptIn now key p = keyIn key { pressed := false, run := 0 } p := by
  simp only [acceptIn, h]
  rfl

theorem acceptIn_released {p : SeatState} (h : p.keys[keyPlace key].pressed = false) (now : Stamp) :
    acceptIn now key p = latchIn now key (keyIn key { pressed := true, run := 0 } p) := by
  simp only [acceptIn, h]
  rfl

theorem updateSeat_congr {f g : SeatState → SeatState} (h : f s.panel.seats[seat] = g s.panel.seats[seat]) :
    updateSeat seat f s = updateSeat seat g s := by
  rw [updateSeat, updateSeat, h]

theorem acceptKey_eq (seat : Seat) (key : PadKey) (s : State) :
    acceptKey seat key s = updateSeat seat (acceptIn s.clock.now key) s := by
  cases h : (keyState s seat key).pressed with
  | true =>
    simp only [acceptKey, h, if_true, setKey_eq]
    exact updateSeat_congr (acceptIn_pressed h _).symm
  | false =>
    simp only [acceptKey, h, Bool.false_eq_true, if_false, latchPress_eq, setKey_eq, updateSeat_updateSeat]
    exact updateSeat_congr (acceptIn_released h _).symm

theorem scanKey_eq (readings : BitVec 40) (at_ : Seat × PadKey) (s : State) :
    scanKey readings at_ s
      = updateSeat at_.1 (readIn s.clock.now (readings.getLsbD (keyBit at_.1 at_.2)) at_.2) s := by
  unfold scanKey
  simp only [acceptKey_eq, setKey_eq, updateSeat, readIn, keyState]
  (repeat' split) <;> rfl

/-- What a scan leaves of each seat: its own keys are read, one after another, and nothing else (R85). -/
theorem scanKeys_seat (readings : BitVec 40) (seat : Seat) (keys : List (Seat × PadKey)) : ∀ s : State,
    (keys.foldl (fun t at_ => scanKey readings at_ t) s).panel.seats[seat]
      = ((keys.filter fun at_ => decide (at_.1 = seat)).map (·.2)).foldl
        (fun p key => readIn s.clock.now (readings.getLsbD (keyBit seat key)) key p) s.panel.seats[seat] := by
  induction keys with
  | nil => exact fun _ => rfl
  | cons at_ keys ih =>
    intro s
    rw [List.foldl_cons, ih]
    have hnow : (scanKey readings at_ s).clock.now = s.clock.now := by simp
    rw [hnow, scanKey_eq, updateSeat_panel]
    by_cases h : at_.1 = seat
    · subst h
      simp [putAt_self]
    · simp [putAt_other _ h, h]

theorem scanKeys_reveal (readings : BitVec 40) (keys : List (Seat × PadKey)) : ∀ s : State,
    (keys.foldl (fun t at_ => scanKey readings at_ t) s).panel.reveal = s.panel.reveal :=
  foldl_keeps (fun t : State => t.panel.reveal) _ (fun t at_ => by rw [scanKey_eq]; rfl) keys

/-- The keys that a scan reads of a seat (R85). -/
theorem unread_of_seat (s : State) (p : Seat × PadKey → Bool) (seat : Seat) :
    (((fittedKeys s).filter p).filter fun at_ => decide (at_.1 = seat)).map (·.2)
      = if seat.val < s.straps.seatCount then allKeys.filter fun key => p (seat, key) else [] := by
  have hseat : ∀ seats : List Seat, seats.Nodup →
      (((seats.flatMap fun i => allKeys.map fun key => (i, key)).filter p).filter fun at_ =>
        decide (at_.1 = seat)).map (·.2) = if seat ∈ seats then allKeys.filter fun key => p (seat, key) else [] := by
    intro seats hnodup
    induction seats with
    | nil => rfl
    | cons i seats ih =>
      obtain ⟨hi, hrest⟩ := List.nodup_cons.mp hnodup
      rw [List.flatMap_cons, List.filter_append, List.filter_append, List.map_append, ih hrest]
      by_cases h : i = seat
      · subst h
        simp [hi, List.filter_map, List.filter_filter, Function.comp_def]
      · simp [h, Ne.symm h, List.filter_map, List.filter_filter, Function.comp_def]
  rw [fittedKeys, hseat (seatsBelow _) ((List.nodup_finRange 8).filter _)]
  simp [seatsBelow]

/-! ### The readings of a seat's keys -/

/-- What a reading makes of a key's state (R86). -/
def countKey (down : Bool) (k : KeyState) : KeyState :=
  if down = k.pressed then { k with run := 0 }
  else if k.run < 2 then { k with run := k.run + 1 }
  else { pressed := !k.pressed, run := 0 }

theorem readIn_keys (now : Stamp) (down : Bool) (key : PadKey) (p : SeatState) :
    (readIn now down key p).keys = putAt p.keys (keyPlace key) (countKey down p.keys[keyPlace key]) := by
  unfold readIn acceptIn countKey
  simp only
  (repeat' split) <;> simp_all [keyIn, latchIn]

theorem readIn_flags (now : Stamp) (down : Bool) (key : PadKey) (p : SeatState) :
    (readIn now down key p).buzzed = p.buzzed ∧ (readIn now down key p).chosen = p.chosen
      ∧ (readIn now down key p).correct = p.correct := by
  unfold readIn acceptIn
  simp only
  (repeat' split) <;> exact ⟨rfl, rfl, rfl⟩

/-- A press is accepted at this reading (R86). -/
def accepts (down : Bool) (k : KeyState) : Bool := down && !k.pressed && decide (2 ≤ k.run)

theorem readIn_accepted {down : Bool} {p : SeatState} (h : accepts down p.keys[keyPlace key] = true) (now : Stamp) :
    readIn now down key p = latchIn now key (keyIn key { pressed := true, run := 0 } p) := by
  obtain ⟨⟨hdown, hpressed⟩, hrun⟩ := by simpa only [accepts, Bool.and_eq_true, Bool.not_eq_true'] using h
  simp only [readIn]
  rw [if_neg (by rw [hpressed, hdown]; decide), if_neg (Nat.not_lt.mpr (of_decide_eq_true hrun)),
    acceptIn_released hpressed]

theorem readIn_counted {down : Bool} {p : SeatState} (h : accepts down p.keys[keyPlace key] = false) (now : Stamp) :
    ∃ k, readIn now down key p = keyIn key k p := by
  simp only [readIn]
  split
  · exact ⟨_, rfl⟩
  · split
    · exact ⟨_, rfl⟩
    · next hopposite hrun =>
      cases hpressed : p.keys[keyPlace key].pressed with
      | true => exact ⟨_, acceptIn_pressed hpressed now⟩
      | false =>
        have hdown : down = true := by
          cases down with
          | true => rfl
          | false => exact absurd hpressed.symm hopposite
        have hrun' : 2 ≤ p.keys[keyPlace key].run := Nat.not_lt.mp hrun
        rw [accepts, hdown, hpressed, decide_eq_true hrun'] at h
        cases h

end Sys2Proof.Machine
end

section
/-! PROOFS. The latch list under the readings of a scan, the scan of a whole panel, and the third readings reported
alone (R85 to R87, R93). -/

namespace Sys2Proof.Machine

open Sys2Proof.Safety

variable {s : State} {seat : Seat} {key : PadKey}

/-! ### Insertion into the latch list (R87) -/

theorem insertPress_take (p : Press) : ∀ (l : List Press) (n : Nat),
    (insertPress p (l.take n)).take n = (insertPress p l).take n
  | [], n => by simp
  | h :: t, 0 => by simp
  | h :: t, n + 1 => by
    simp only [List.take_succ_cons, insertPress]
    split
    · cases n with
      | zero => rfl
      | succ n => simp [List.take_take]
    · rw [List.take_succ_cons, List.take_succ_cons, insertPress_take p t n]

theorem insertPress_older {p : Press} {older : List Press} (h : ∀ x ∈ older, x.stamp ≠ p.stamp) (l : List Press) :
    insertPress p (older ++ l) = older ++ insertPress p l := by
  induction older with
  | nil => rfl
  | cons x older ih =>
    have hx : p.stamp ≠ x.stamp := (h x (by simp)).symm
    simp [insertPress, hx, ih fun y hy => h y (by simp [hy])]

/-- A press of a key at the clock value of a scan. -/
def pressAt (now : Stamp) (key : PadKey) : Press := { key := key, stamp := now }

/-- Among the presses of one scan a press takes its place in key order. -/
theorem insertPress_keys (now : Stamp) (m : PadKey → Bool) {a : PadKey} (hm : m a = false) : ∀ {keys : List PadKey},
    keys.Pairwise (fun x y => keyPlace x < keyPlace y) → a ∈ keys →
    insertPress (pressAt now a) ((keys.filter m).map (pressAt now))
      = (keys.filter fun k => m k || decide (k = a)).map (pressAt now)
  | x :: keys, hsorted, ha => by
    obtain ⟨hx, hrest⟩ := List.pairwise_cons.mp hsorted
    by_cases hxa : x = a
    · subst hxa
      have hkeys : keys.filter (fun k => m k || decide (k = x)) = keys.filter m :=
        List.filter_congr fun k hk => by
          have : k ≠ x := fun e => (hx k hk).ne' (congrArg keyPlace e)
          simp [this]
      rw [List.filter_cons_of_neg (by simp [hm]), List.filter_cons_of_pos (by simp), hkeys, List.map_cons]
      cases hl : keys.filter m with
      | nil => rfl
      | cons y rest =>
        have hy : keyPlace x < keyPlace y := hx y (List.mem_of_mem_filter (hl ▸ List.mem_cons_self))
        exact if_pos ⟨rfl, hy⟩
    · have hmem : a ∈ keys := (List.mem_cons.mp ha).resolve_left (Ne.symm hxa)
      have ih := insertPress_keys now m hm hrest hmem
      by_cases hmx : m x = true
      · have hlater : ¬(keyPlace a < keyPlace x) := (hx a hmem).not_gt
        rw [List.filter_cons_of_pos hmx, List.filter_cons_of_pos (by simp [hmx]), List.map_cons, List.map_cons, ← ih]
        exact if_neg fun h => hlater h.2
      · rw [List.filter_cons_of_neg hmx, List.filter_cons_of_neg (by simp [hmx, hxa]), ih]

theorem allKeys_ordered : allKeys.Pairwise fun x y => keyPlace x < keyPlace y := by decide

theorem mem_allKeys (key : PadKey) : key ∈ allKeys := by
  cases key with
  | buzz => decide
  | choice c => revert c; decide

/-! ### A latch list under a scan (R86, R87, R93) -/

/-- The latch list with the presses of one scan, however many. -/
def latchOf (now : Stamp) (older : List Press) (m : PadKey → Bool) : List Press :=
  older ++ (allKeys.filter m).map (pressAt now)

/-- The latch list holds the first four, and a lost one has started the flash. -/
def latched (now : Stamp) (older : List Press) (flash : Option Stamp) (m : PadKey → Bool) (p : SeatState) : Prop :=
  p.latch = (latchOf now older m).take 4
    ∧ p.flash = if 4 < (latchOf now older m).length then some (now + 500) else flash

theorem insertPress_latchOf {now : Stamp} {older : List Press} (h : ∀ x ∈ older, x.stamp ≠ now) {m : PadKey → Bool}
    {a : PadKey} (hm : m a = false) :
    insertPress (pressAt now a) (latchOf now older m) = latchOf now older fun k => m k || decide (k = a) := by
  rw [latchOf, insertPress_older h, insertPress_keys now m hm allKeys_ordered (mem_allKeys a)]
  rfl

theorem latchIn_latched {now : Stamp} {older : List Press} {flash : Option Stamp} {m : PadKey → Bool} {p : SeatState}
    (hold : ∀ x ∈ older, x.stamp ≠ now) (hm : m key = false) (h : latched now older flash m p) :
    latched now older flash (fun k => m k || decide (k = key)) (latchIn now key p) := by
  obtain ⟨hlatch, hflash⟩ := h
  have hinsert := insertPress_latchOf hold hm
  have hlength : (latchOf now older fun k => m k || decide (k = key)).length = (latchOf now older m).length + 1 := by
    rw [← hinsert, (insertPress_perm _ _).length_eq]
    rfl
  refine ⟨?_, ?_⟩
  · rw [← hinsert, ← insertPress_take, ← hlatch]
    rfl
  · rw [hlength]
    simp only [latchIn, hlatch, hflash, List.length_take]
    by_cases hroom : (latchOf now older m).length < 4
    · rw [if_pos (by omega), if_neg (by omega), if_neg (by omega)]
    · rw [if_neg (by omega), if_pos (by omega)]

/-- The readings of a seat's keys, each once, leave the latch list with every accepted press joined. -/
theorem readKeys_latched {now : Stamp} {older : List Press} {flash : Option Stamp} (down : PadKey → Bool)
    (ks : Vector KeyState 5) (hold : ∀ x ∈ older, x.stamp ≠ now) : ∀ (keys : List PadKey) (m : PadKey → Bool)
    (p : SeatState), keys.Nodup → latched now older flash m p →
    (∀ a ∈ keys, p.keys[keyPlace a] = ks[keyPlace a]) →
    (∀ a ∈ keys, accepts (down a) ks[keyPlace a] = true → m a = false) →
    latched now older flash (fun k => m k || (decide (k ∈ keys) && accepts (down k) ks[keyPlace k]))
      (keys.foldl (fun p key => readIn now (down key) key p) p)
  | [], m, p, _, h, _, _ => by simpa using h
  | a :: keys, m, p, hnodup, h, hkeys, hm => by
    obtain ⟨ha, hrest⟩ := List.nodup_cons.mp hnodup
    have hlater : ∀ b ∈ keys, (readIn now (down a) a p).keys[keyPlace b] = ks[keyPlace b] := by
      intro b hb
      have hne : keyPlace a ≠ keyPlace b := fun e => ha (keyPlace_injective e ▸ hb)
      rw [readIn_keys]
      exact (putAt_other _ hne _).trans (hkeys b (List.mem_cons_of_mem a hb))
    have hka := hkeys a List.mem_cons_self
    cases hacc : accepts (down a) ks[keyPlace a] with
    | true =>
      have hread := readIn_accepted (by rw [hka]; exact hacc) now (down := down a) (key := a) (p := p)
      have hstep := latchIn_latched (p := keyIn a { pressed := true, run := 0 } p) hold
        (hm a List.mem_cons_self hacc) h
      have ih := readKeys_latched down ks hold keys _ _ hrest (hread ▸ hstep) hlater fun b hb hb' => by
        have : b ≠ a := fun e => ha (e ▸ hb)
        simp [hm b (List.mem_cons_of_mem a hb) hb', this]
      rw [List.foldl_cons]
      convert ih using 2 with k
      by_cases hk : k = a
      · subst hk
        simp only [Fin.getElem_fin] at hacc
        simp [hacc]
      · simp [hk]
    | false =>
      obtain ⟨k, hread⟩ := readIn_counted (by rw [hka]; exact hacc) now (down := down a) (key := a) (p := p)
      have hstep : latched now older flash m (readIn now (down a) a p) := by rw [hread]; exact h
      have ih := readKeys_latched down ks hold keys m _ hrest hstep hlater
        fun b hb => hm b (List.mem_cons_of_mem a hb)
      rw [List.foldl_cons]
      convert ih using 2 with k
      by_cases hk : k = a
      · subst hk
        simp only [Fin.getElem_fin] at hacc
        simp [hacc]
      · simp [hk]

/-- Each key read has counted its reading, and no other key moves. -/
theorem readKeys_keys (now : Stamp) (down : PadKey → Bool) (key : PadKey) : ∀ (keys : List PadKey) (p : SeatState),
    keys.Nodup → (keys.foldl (fun p key => readIn now (down key) key p) p).keys[keyPlace key]
      = if key ∈ keys then countKey (down key) p.keys[keyPlace key] else p.keys[keyPlace key]
  | [], p, _ => rfl
  | a :: keys, p, hnodup => by
    obtain ⟨ha, hrest⟩ := List.nodup_cons.mp hnodup
    rw [List.foldl_cons, readKeys_keys now down key keys _ hrest, readIn_keys]
    by_cases hk : key = a
    · subst hk
      rw [if_neg ha, if_pos List.mem_cons_self]
      exact putAt_self _ _ _
    · have hplace : keyPlace a ≠ keyPlace key := fun e => hk (keyPlace_injective e).symm
      have hput := putAt_other p.keys hplace (countKey (down a) p.keys[keyPlace a])
      simp only [Fin.getElem_fin] at hput ⊢
      simp [hput, hk]

theorem readKeys_flags (now : Stamp) (down : PadKey → Bool) (keys : List PadKey) (p : SeatState) :
    let q := keys.foldl (fun p key => readIn now (down key) key p) p
    q.buzzed = p.buzzed ∧ q.chosen = p.chosen ∧ q.correct = p.correct := by
  induction keys generalizing p with
  | nil => exact ⟨rfl, rfl, rfl⟩
  | cons a keys ih =>
    obtain ⟨hb, hc, hr⟩ := ih (readIn now (down a) a p)
    obtain ⟨hb', hc', hr'⟩ := readIn_flags now (down a) a p
    exact ⟨hb.trans hb', hc.trans hc', hr.trans hr'⟩

theorem filter_or_length (keys : List PadKey) (m n : PadKey → Bool) (h : ∀ k, n k = true → m k = false) :
    (keys.filter fun k => m k || n k).length = (keys.filter m).length + (keys.filter n).length := by
  induction keys with
  | nil => rfl
  | cons a keys ih =>
    have := h a
    cases hm : m a <;> cases hn : n a <;> simp_all <;> omega

/-! ### The scan (R85) -/

/-- What a scan of a clock value makes of the station, before the settling. -/
def scanned (readings : BitVec 40) (s : State) : State :=
  ((fittedKeys s).filter fun at_ => !isRead s at_.1 at_.2).foldl (fun t at_ => scanKey readings at_ t)
    (setScanned (BitVec.allOnes 40) s)

theorem exec_keyScan (readings : BitVec 40) (hheld : s.held = false) (h : s.clock.scanned ≠ BitVec.allOnes 40) :
    exec (.keyScan readings) s = .next (settle (scanned readings s)) :=
  event_next hheld (effect := keyScanEffect readings) (by simp only [keyScanEffect, if_neg h]; rfl)

theorem exec_keyScan_again (readings : BitVec 40) (hheld : s.held = false)
    (h : s.clock.scanned = BitVec.allOnes 40) :
    exec (.keyScan readings) s = exec (.keyScan readings) (tickClock s) := by
  have hnext : exec (.keyScan readings) s = .next (settle (scanned readings (tickClock s))) :=
    event_next hheld (effect := keyScanEffect readings) (by simp only [keyScanEffect, if_pos h]; rfl)
  rw [hnext, exec_keyScan readings (s := tickClock s) hheld (by simp)]

theorem scanned_seat (readings : BitVec 40) (seat : Seat) (s : State) :
    (scanned readings s).panel.seats[seat]
      = (if seat.val < s.straps.seatCount then allKeys.filter fun key => !isRead s seat key else []).foldl
        (fun p key => readIn s.clock.now (readings.getLsbD (keyBit seat key)) key p) s.panel.seats[seat] := by
  rw [scanned, scanKeys_seat, unread_of_seat]
  rfl

theorem scanned_frame (readings : BitVec 40) (s : State) :
    changesOnly [.panel, .clock] s (scanned readings s)
      ∧ (scanned readings s).clock = { s.clock with scanned := BitVec.allOnes 40 }
      ∧ (scanned readings s).panel.reveal = s.panel.reveal := by
  have hframe := scanKeys_frame readings ((fittedKeys s).filter fun at_ => !isRead s at_.1 at_.2)
    (setScanned (BitVec.allOnes 40) s)
  refine ⟨?_, ?_, scanKeys_reveal readings _ _⟩
  · simp_all [changesOnly, scanned]
  · simp_all [changesOnly, scanned]

/-- The scan accepts a press of this key (R86). -/
def acceptedKey (readings : BitVec 40) (s : State) (seat : Seat) (key : PadKey) : Bool :=
  !isRead s seat key && readings.getLsbD (keyBit seat key) && !(keyState s seat key).pressed
    && decide (2 ≤ (keyState s seat key).run)

theorem pressesAccepted (readings : BitVec 40) (s : State) (seat : Seat) (mine : PadKey → Bool) :
    (fun k => mine k || (decide (k ∈ allKeys.filter fun key => !isRead s seat key)
      && accepts (readings.getLsbD (keyBit seat k)) s.panel.seats[seat].keys[keyPlace k]))
    = fun k => mine k || acceptedKey readings s seat k := by
  funext k
  simp only [acceptedKey, accepts, keyState, mem_allKeys, List.mem_filter, true_and, Bool.decide_eq_true,
    Bool.and_assoc]
  rfl

/-! ### Third readings reported alone (R86; log entry 10) -/

theorem atThird_iff {pressed : Bool} (hfit : seat.val < s.straps.seatCount) :
    atThird s seat key pressed = true ↔ keyState s seat key = { pressed := pressed, run := 2 } := by
  simp [atThird, fitted, hfit]

/-- The third reading at a clock value that the key has not had its reading at. -/
theorem thirdReading_unread (h : isRead s seat key = false) : thirdReading seat key s
    = updateSeat seat (acceptIn s.clock.now key)
      (setScanned (s.clock.scanned ||| BitVec.twoPow 40 (keyBit seat key)) s) := by
  simp [thirdReading, h, acceptKey_eq]

theorem thirdReading_later (h : isRead s seat key = true) :
    thirdReading seat key s = thirdReading seat key (tickClock s) := by
  have hlater : isRead (tickClock s) seat key = false := by simp [isRead]
  simp [thirdReading, h, hlater]

theorem exec_acceptedPress (hheld : s.held = false) (hfit : seat.val < s.straps.seatCount)
    (hk : keyState s seat key = { pressed := false, run := 2 }) :
    exec (.acceptedPress seat key) s = .next (settle (thirdReading seat key s)) :=
  event_next hheld (occasion_eq_some.mpr ⟨(atThird_iff hfit).mpr hk, rfl⟩)

theorem exec_acceptedRelease (hheld : s.held = false) (hfit : seat.val < s.straps.seatCount)
    (hk : keyState s seat key = { pressed := true, run := 2 }) :
    exec (.acceptedRelease seat key) s = .next (settle (thirdReading seat key s)) :=
  event_next hheld (occasion_eq_some.mpr ⟨(atThird_iff hfit).mpr hk, rfl⟩)

end Sys2Proof.Machine
end

section

open Sys2Proof Sys2Proof.Machine Sys2Proof.Safety

/-- Settles O22: the scan reads each fitted key once, and the accepted presses join in key order. -/
theorem keyScanDebouncesEveryFittedKey : Obligations.KeyScanDebouncesEveryFittedKey := by
  intro s readings hheld
  refine ⟨exec_keyScan_again readings hheld, fun hfirst => ⟨by decide, _, exec_keyScan readings hheld hfirst, ?_⟩⟩
  obtain ⟨hframe, hclock, hreveal⟩ := scanned_frame readings s
  refine ⟨hframe, hclock, hreveal, fun seat => ⟨fun hunfit => ?_, fun hfit => ?_⟩⟩
  · rw [scanned_seat, if_neg (Nat.not_lt.mpr hunfit)]
    rfl
  · have hseat := scanned_seat readings seat s
    rw [if_pos hfit] at hseat
    have hnodup : (allKeys.filter fun key => !isRead s seat key).Nodup :=
      (List.Pairwise.imp (fun h e => (lt_irrefl _ (e ▸ h)).elim) allKeys_ordered : allKeys.Nodup).filter _
    have hflags := readKeys_flags s.clock.now (fun key => readings.getLsbD (keyBit seat key))
      (allKeys.filter fun key => !isRead s seat key) s.panel.seats[seat]
    rw [← hseat] at hflags
    refine ⟨fun key => ?_, hflags.1, hflags.2.1, hflags.2.2, fun older mine hlatch hold hlen hmine => ?_⟩
    · have hkey := readKeys_keys s.clock.now (fun key => readings.getLsbD (keyBit seat key)) key _
        s.panel.seats[seat] hnodup
      rw [← hseat] at hkey
      rw [keyState, hkey]
      simp only [List.mem_filter, mem_allKeys, true_and, Bool.not_eq_true', isRead, keyBit]
      cases s.clock.scanned.getLsbD (5 * seat.val + (keyPlace key).val) <;> rfl
    · have hstart : latched s.clock.now older s.panel.seats[seat].flash mine s.panel.seats[seat] := by
        have heq : s.panel.seats[seat].latch = latchOf s.clock.now older mine := hlatch
        rw [heq] at hlen
        exact ⟨by rw [heq, List.take_of_length_le hlen], by rw [if_neg (Nat.not_lt.mpr hlen)]⟩
      have hend := readKeys_latched (fun key => readings.getLsbD (keyBit seat key)) s.panel.seats[seat].keys hold
        _ mine _ hnodup hstart (fun _ _ => rfl) fun a ha hacc => hmine a (by
          simp_all [accepts, isRead, keyBit, keyState])
      rw [← hseat, pressesAccepted] at hend
      have hlength : (latchOf s.clock.now older fun key => mine key || acceptedKey readings s seat key).length
          = s.panel.seats[seat].latch.length + (allKeys.filter (acceptedKey readings s seat)).length := by
        rw [hlatch, latchOf, List.length_append, List.length_append, List.length_map, List.length_map,
          filter_or_length _ mine (acceptedKey readings s seat) hmine, Nat.add_assoc]
        rfl
      rw [latched, hlength] at hend
      exact hend

end

section

open Sys2Proof Sys2Proof.Machine Sys2Proof.Safety

/-- Settles O23: the third reading of a key, at its clock value or the next, and the end of a flash. -/
theorem keysAreAcceptedAndFlashesEnd : Obligations.KeysAreAcceptedAndFlashesEnd := by
  refine ⟨fun s seat key hheld hfit => ⟨fun hread => ⟨fun hk => ?_, fun hk => ?_⟩,
    fun hread => ⟨fun hk older mine hlatch hold hm => ?_, fun hk => ?_⟩⟩, fun s seat t hheld hflash hend => ?_⟩
  · rw [exec_acceptedPress hheld hfit hk, thirdReading_later hread]
    exact (exec_acceptedPress (s := tickClock s) hheld hfit hk).symm
  · rw [exec_acceptedRelease hheld hfit hk, thirdReading_later hread]
    exact (exec_acceptedRelease (s := tickClock s) hheld hfit hk).symm
  · have hpressed : s.panel.seats[seat].keys[keyPlace key].pressed = false := congrArg KeyState.pressed hk
    have hinsert : insertPress (pressAt s.clock.now key) s.panel.seats[seat].latch
        = latchOf s.clock.now older fun k => mine k || decide (k = key) := by
      rw [hlatch]
      exact insertPress_latchOf hold hm
    rw [exec_acceptedPress hheld hfit hk, thirdReading_unread hread]
    refine congrArg (fun p => Host.Outcome.next (settle { s with
      clock := { s.clock with scanned := s.clock.scanned ||| BitVec.twoPow 40 (keyBit seat key) }
      panel := { s.panel with seats := putAt s.panel.seats seat p } })) ?_
    rw [setScanned_panel, acceptIn_released hpressed]
    exact congrArg (fun l => { s.panel.seats[seat] with
      keys := putAt s.panel.seats[seat].keys (keyPlace key) { pressed := true, run := 0 }
      latch := List.take 4 l
      flash := if s.panel.seats[seat].latch.length < 4 then s.panel.seats[seat].flash else some (s.clock.now + 500) })
      hinsert
  · have hpressed : s.panel.seats[seat].keys[keyPlace key].pressed = true := congrArg KeyState.pressed hk
    rw [exec_acceptedRelease hheld hfit hk, thirdReading_unread hread]
    refine congrArg (fun p => Host.Outcome.next (settle { s with
      clock := { s.clock with scanned := s.clock.scanned ||| BitVec.twoPow 40 (keyBit seat key) }
      panel := { s.panel with seats := putAt s.panel.seats seat p } })) ?_
    rw [setScanned_panel, acceptIn_pressed hpressed]
    rfl
  · refine event_next hheld (effect := flashEndEffect seat) ?_
    simp only [flashEndEffect, hflash]
    exact occasion_eq_some.mpr ⟨decide_eq_true hend, rfl⟩

end

section
/-! PROOFS. The question timer: its instants, the placement of a stamp and the countdown, each by the row of its table
(R80, R82 to R84). -/

namespace Sys2Proof.Machine

open Sys2Proof.Safety

variable {s : State} {t : Timer} {x : Stamp}

/-! ### Order of stamps (R80) -/

theorem atOrAfter_iff {a b : Stamp} : atOrAfter a b = true ↔ (a - b).toNat < 2 ^ 31 := decide_eq_true_iff

theorem before_eq_false {a b : Stamp} : Machine.before a b = false ↔ (a - b).toNat < 2 ^ 31 := by
  simp [Machine.before, atOrAfter]

theorem before_iff {a b : Stamp} : Machine.before a b = true ↔ ¬(a - b).toNat < 2 ^ 31 := by
  simp [Machine.before, atOrAfter]

/-! ### The placement (R80) -/

theorem inCurrent_iff (t : Timer) (x : Stamp) : t.inCurrent x = true ↔ (x - t.start).toNat < 2 ^ 31
    ∧ ∀ h, t.haltStamp = some h → t.cond = .halted ∨ t.cond = .stopped → ¬(x - h).toNat < 2 ^ 31 := by
  unfold Timer.inCurrent
  rw [Bool.and_eq_true, atOrAfter_iff]
  refine and_congr_right fun _ => ?_
  cases hc : t.cond <;> cases hh : t.haltStamp <;> simp [before_iff]

theorem place_clear (h : t.cond = .clear) (x : Stamp) : t.place x = none := by
  simp [Timer.place, h]

theorem place_before (hc : t.cond ≠ .clear) (h : ¬(x - t.origin).toNat < 2 ^ 31) : t.place x = some .before := by
  rw [Timer.place, if_neg hc, if_pos (before_iff.mpr h)]

theorem place_current (hc : t.cond ≠ .clear) (ho : (x - t.origin).toNat < 2 ^ 31) (h : t.inCurrent x = true) :
    t.place x = some (t.inOrLate x t.offset) := by
  rw [Timer.place, if_neg hc, if_neg (by simp [before_eq_false.mpr ho]), if_pos h]

/-- The stamp falls in a stretch that has ended (R80). -/
theorem inPrevious_iff (p : Stretch) (x : Stamp) : (atOrAfter x p.start && Machine.before x p.stop) = true
    ↔ (x - p.start).toNat < 2 ^ 31 ∧ ¬(x - p.stop).toNat < 2 ^ 31 := by
  rw [Bool.and_eq_true, atOrAfter_iff, before_iff]

theorem place_previous {p : Stretch} (hc : t.cond ≠ .clear) (ho : (x - t.origin).toNat < 2 ^ 31)
    (h : t.inCurrent x = false) (hp : t.previous = some p)
    (hin : (x - p.start).toNat < 2 ^ 31 ∧ ¬(x - p.stop).toNat < 2 ^ 31) :
    t.place x = some (t.inOrLate x p.offset) := by
  rw [Timer.place, if_neg hc, if_neg (by simp [before_eq_false.mpr ho]), if_neg (by simp [h])]
  simp only [hp, if_pos ((inPrevious_iff p x).mpr hin)]

theorem place_halted (hc : t.cond ≠ .clear) (ho : (x - t.origin).toNat < 2 ^ 31) (h : t.inCurrent x = false)
    (hp : ∀ p, t.previous = some p → ¬((x - p.start).toNat < 2 ^ 31 ∧ ¬(x - p.stop).toNat < 2 ^ 31)) :
    t.place x = some .halted := by
  rw [Timer.place, if_neg hc, if_neg (by simp [before_eq_false.mpr ho]), if_neg (by simp [h])]
  cases hprev : t.previous with
  | none => rfl
  | some p => simp only [if_neg (fun hin => hp p hprev ((inPrevious_iff p x).mp hin))]

/-! ### The countdown (R84) -/

theorem countdown_running (hc : t.cond = .running) (hd : t.due = false) (now : Stamp) :
    t.countdown now = some ((t.limit - (now - t.origin - t.offset).toNat + 999) / 1000) := by
  simp [Timer.countdown, Timer.elapsed, hc, hd]

theorem countdown_frozen {h : Stamp} (hc : t.cond = .halted ∨ t.cond = .stopped) (hh : t.haltStamp = some h)
    (now : Stamp) : t.countdown now = some ((t.limit - (h - t.origin - t.offset).toNat + 999) / 1000) := by
  rcases hc with hc | hc <;> simp [Timer.countdown, Timer.elapsed, hc, hh]

theorem countdown_run_out (h : t.cond = .expired ∨ (t.cond = .running ∧ t.due = true)) (now : Stamp) :
    t.countdown now = some 0 := by
  rcases h with hc | ⟨hc, hd⟩
  · simp [Timer.countdown, hc]
  · simp [Timer.countdown, hc, hd]

end Sys2Proof.Machine
end

section

open Sys2Proof Sys2Proof.Machine Sys2Proof.Safety

/-- Settles O24: each instant brings its occasion about, and the effect is the one named. -/
theorem warnAndExpiryFallAtTheirInstants : Obligations.WarnAndExpiryFallAtTheirInstants := by
  refine fun s hheld hrunning => ⟨fun p hwarned hpoint hreached => ?_, fun hdue hreached => ?_,
    fun hopened hwork => ?_⟩
  · have hreach : warnReached s = true := by
      simp only [warnReached, hrunning, hwarned, Timer.warnInstant, hpoint, Option.map_some,
        atOrAfter_iff.mpr hreached]
      rfl
    exact event_next hheld (occasion_eq_some.mpr ⟨hreach, rfl⟩)
  · refine event_next hheld (occasion_eq_some.mpr ⟨?_, rfl⟩)
    simp only [hrunning, hdue, Timer.expiryInstant, atOrAfter_iff.mpr hreached]
    rfl
  · exact event_next hheld (occasion_eq_some.mpr ⟨by simp [hwork, hopened], rfl⟩)

/-- Settles O25: the rows of both tables. -/
theorem timerPlacesStampsAndCountsDown : Obligations.TimerPlacesStampsAndCountsDown := by
  refine fun t x now => ⟨fun hc => ⟨place_clear hc x, by simp [Timer.countdown, hc]⟩, place_before,
    fun hc ho h => place_current hc ho ((inCurrent_iff t x).mpr h), fun p hc ho h hp hin =>
      place_previous hc ho (Bool.eq_false_iff.mpr fun hin => h ((inCurrent_iff t x).mp hin)) hp hin, fun hc ho h hp =>
      place_halted hc ho (Bool.eq_false_iff.mpr fun hin => h ((inCurrent_iff t x).mp hin)) hp, fun h => countdown_run_out h now,
    fun hc hd => countdown_running hc hd now, fun h hc hh => countdown_frozen hc hh now⟩

end

section
/-! PROOFS. The outputs of a running part: what the line, the desk link, the lamps, the display and ATTN show, each by
its table (R2, R3, R15, R21, R94 to R97, R188). -/

namespace Sys2Proof.Machine

open Sys2Proof.Safety

variable {s : State} {seat : Seat} {st : Station}

/-! ### A seat's place in the buzz queue (R40) -/

/-- The entry is of this seat. -/
def namesSeat (st : Station) (seat : Seat) (b : BuzzEntry) : Bool := decide (b.station = st) && decide (b.seat = seat)

theorem namesSeat_iff {b : BuzzEntry} : namesSeat st seat b = true ↔ b.station = st ∧ b.seat = seat := by
  simp [namesSeat]

theorem floorPlace_absent (h : ∀ b ∈ s.buzz.queue, ¬(b.station = st ∧ b.seat = seat)) : floorPlace s st seat = 0 := by
  have hnone : s.buzz.queue.findIdx? (namesSeat st seat) = none :=
    List.findIdx?_eq_none_iff.mpr fun b hb => by simpa using fun hn => h b hb (namesSeat_iff.mp hn)
  unfold floorPlace
  rw [show (s.buzz.queue.findIdx? fun b => decide (b.station = st) && decide (b.seat = seat)) = none from hnone]

theorem floorPlace_found {front back : List BuzzEntry} {b : BuzzEntry} (hq : s.buzz.queue = front ++ b :: back)
    (hb : b.station = st ∧ b.seat = seat) (hfront : ∀ x ∈ front, ¬(x.station = st ∧ x.seat = seat)) :
    floorPlace s st seat = front.length + 1 := by
  have hnone : front.findIdx? (namesSeat st seat) = none :=
    List.findIdx?_eq_none_iff.mpr fun x hx => by simpa using fun hn => hfront x hx (namesSeat_iff.mp hn)
  have hsome : s.buzz.queue.findIdx? (namesSeat st seat) = some front.length := by
    rw [hq, List.findIdx?_append, hnone, List.findIdx?_cons, if_pos (namesSeat_iff.mpr hb)]
    simp
  unfold floorPlace
  rw [show (s.buzz.queue.findIdx? fun b => decide (b.station = st) && decide (b.seat = seat)) = some front.length
    from hsome]

theorem floorPlace_head (h : ∃ b, s.buzz.queue.head? = some b ∧ (b.station = st ∧ b.seat = seat)) :
    floorPlace s st seat = 1 := by
  obtain ⟨b, hhead, hb⟩ := h
  obtain ⟨back, hq⟩ := List.head?_eq_some_iff.mp hhead
  exact floorPlace_found (front := []) hq hb (by simp)

theorem floorPlace_queued (hhead : ¬∃ b, s.buzz.queue.head? = some b ∧ (b.station = st ∧ b.seat = seat))
    (h : ∃ b ∈ s.buzz.queue, b.station = st ∧ b.seat = seat) : 1 < floorPlace s st seat := by
  obtain ⟨b, hb, hnamed⟩ := h
  obtain ⟨found, hfound⟩ := Option.isSome_iff_exists.mp
    (List.find?_isSome.mpr ⟨b, hb, namesSeat_iff.mpr hnamed⟩ : (s.buzz.queue.find? (namesSeat st seat)).isSome)
  obtain ⟨hnames, front, back, hq, hfront⟩ := List.find?_eq_some_iff_append.mp hfound
  rw [floorPlace_found hq (namesSeat_iff.mp hnames) fun x hx hn => by simpa [namesSeat_iff.mpr hn] using hfront x hx]
  cases front with
  | nil => exact absurd ⟨found, by simp [hq], namesSeat_iff.mp hnames⟩ hhead
  | cons x front => simp

/-! ### Lamps and LEDs (R95, R96) -/

theorem seatLamp_unfitted (hfit : s.straps.seatCount ≤ seat.val) : seatLamp s seat = .dark := by
  simp [seatLamp, fitted, Nat.not_lt.mpr hfit]

theorem choiceLed_unfitted (hfit : s.straps.seatCount ≤ seat.val) (c : Choice) : choiceLed s seat c = .dark := by
  simp [choiceLed, fitted, Nat.not_lt.mpr hfit]

theorem seatLamp_flash (hheld : s.held = false) (hfit : seat.val < s.straps.seatCount)
    (h : s.panel.seats[seat].flash.isSome = true) : seatLamp s seat = .fast := by
  simp only [seatLamp, hheld, fitted, decide_eq_true hfit, h, if_true]
  rfl

theorem seatLamp_correct (hheld : s.held = false) (hfit : seat.val < s.straps.seatCount)
    (hflash : s.panel.seats[seat].flash = none) (h : s.panel.seats[seat].correct = true) :
    seatLamp s seat = .steady := by
  simp only [seatLamp, hheld, fitted, decide_eq_true hfit, hflash, h, if_true]
  rfl

/-- A seat without flash or correct mark shows its place in the queue, or else its lockout (R95). -/
theorem seatLamp_place (hheld : s.held = false) (hfit : seat.val < s.straps.seatCount)
    (hflash : s.panel.seats[seat].flash = none) (hcorrect : s.panel.seats[seat].correct = false) :
    seatLamp s seat = if floorPlace s s.straps.station seat = 1 then .steady
      else if 1 < floorPlace s s.straps.station seat then .slow
      else if s.engine.state.isOpen = true ∧ lockedOut s s.straps.station seat (teamOf (some s.straps.role)) = true
        then .fast else .dark := by
  simp only [seatLamp, hheld, fitted, decide_eq_true hfit, hflash, hcorrect, Bool.and_eq_true]
  rfl

theorem choiceLed_dark (hheld : s.held = false) (hfit : seat.val < s.straps.seatCount)
    (h : s.panel.reveal = none) (c : Choice) :
    choiceLed s seat c = if s.panel.seats[seat].chosen.map (·.choice) = some c then .steady else .dark := by
  cases hc : s.panel.seats[seat].chosen <;> simp_all [choiceLed, fitted]

theorem choiceLed_revealed {set : ChoiceSet} (hheld : s.held = false) (hfit : seat.val < s.straps.seatCount)
    (h : s.panel.reveal = some set) (c : Choice) :
    choiceLed s seat c = if inSet set c = true then .fast
      else if s.panel.seats[seat].chosen.map (·.choice) = some c then .slow else .dark := by
  cases hc : s.panel.seats[seat].chosen <;> simp_all [choiceLed, fitted]

/-! ### The desk display and ATTN (R97, R188) -/

theorem deskDisplay_desk {k : Team} (hheld : s.held = false) (h : s.straps.role = .desk k) : deskDisplay s
    = { total := (s.score.standings.find? fun x => decide (x.team = k)).map fun x => clampDisplay x.total
        rank := (s.score.standings.find? fun x => decide (x.team = k)).map (·.rank)
        countdown := shownCountdown s
        uncertain := s.store.adrift
        lineFault := s.line.fault } := by
  simp [deskDisplay, hheld, h, ownStanding]

theorem attn_iff (hheld : s.held = false) : attn s = true ↔ ∃ n : Notice, s.link.raised.getLsbD (noticeBit n) = true
    ∧ s.link.mask.getLsbD (noticeBit n) = true := by
  have hattn : attn s = true ↔ s.link.raised &&& s.link.mask ≠ 0 := by simp [attn, hheld]
  rw [hattn]
  constructor
  · intro h
    by_contra hall
    refine h (notices_eq_zero fun n => ?_)
    rw [BitVec.getLsbD_and]
    have hn := not_exists.mp hall n
    cases hr : s.link.raised.getLsbD (noticeBit n) <;> simp_all
  · rintro ⟨n, hr, hm⟩ h
    have hbit := congrArg (fun v => v.getLsbD (noticeBit n)) h
    simp [hr, hm] at hbit

end Sys2Proof.Machine
end

section

open Sys2Proof Sys2Proof.Machine Sys2Proof.Safety

/-- Settles O26: each output by its table. -/
theorem lampsDisplayAndAttnShowTheState : Obligations.LampsDisplayAndAttnShowTheState := by
  refine ⟨fun s hheld => ⟨rfl, fun seat => ⟨by simp [seatSelectUsed, hheld, fitted], rfl⟩,
      by simp [drivesPulse, hheld], fun w hrx => ?_, fun hrx => ?_, fun htx => ?_, fun x htx hrx => ?_,
      fun harb hsend hmark => ?_, rfl, fun bytes htx => ?_, fun htx => ?_⟩,
    fun now => ⟨rfl, rfl, by simp [Pattern.lit], by simp [Pattern.lit]⟩,
    fun s seat hheld => ⟨fun hunfit => ⟨seatLamp_unfitted hunfit, choiceLed_unfitted hunfit⟩,
      fun hfit => ⟨seatLamp_flash hheld hfit, seatLamp_correct hheld hfit, fun hflash hcorrect => ?_,
        fun c => ⟨fun h => choiceLed_dark hheld hfit h c, fun set h => choiceLed_revealed hheld hfit h c⟩⟩⟩,
    fun s hheld => ⟨fun hrole => by simp [deskDisplay, hrole], fun k hrole => ?_, attn_iff hheld⟩⟩
  · simp [drivesFaultHalf, drivesBusyHalf, hheld, hrx, Window.drivesFault, Window.drivesBusy]
  · unfold drivesFaultHalf drivesBusyHalf
    cases h : s.line.rx <;> simp_all
  · rcases htx with h | h <;> simp [sendingChar, hheld, h]
  · simp [sendingChar, hheld, htx, hrx]
  · unfold sendingChar
    cases htx : s.line.tx <;> cases hrx : s.line.rx <;> simp_all
  · rcases htx with h | h <;> simp [sendingTxd, sendingRecord, hheld, h]
  · simp [sendingTxd, sendingRecord, hheld, htx]
  · rw [seatLamp_place hheld hfit hflash hcorrect]
    refine ⟨fun hhead => if_pos (floorPlace_head hhead), fun hhead hqueued => ?_, fun hqueued hlocked => ?_,
      fun hqueued hlocked => ?_⟩
    · have hplace := floorPlace_queued hhead hqueued
      rw [if_neg hplace.ne', if_pos hplace]
    · rw [floorPlace_absent fun b hb hn => hqueued ⟨b, hb, hn⟩]
      exact if_pos hlocked
    · rw [floorPlace_absent fun b hb hn => hqueued ⟨b, hb, hn⟩]
      exact if_neg hlocked
  · rw [deskDisplay_desk hheld hrole]
    refine ⟨fun x hx => ⟨by rw [hx]; rfl, by rw [hx]; rfl⟩, rfl, rfl, fun hwarned => ?_, fun hwarned => ?_⟩
    · simp [shownCountdown, hwarned]
    · by_cases hphase : s.clock.now.toNat % 1000 < 500 <;> simp [shownCountdown, hwarned, Pattern.lit, hphase]

end

section
/-! PROOFS. Presses: the gate, the two judgements behind it, and the pending answer list with the one ANSWER entry that
stands for it (R51, R52, R88, R115, R118, R137, R138). -/

namespace Sys2Proof.Machine

open Sys2Proof.Safety

variable {s t : State} {seat : Seat} {p : Press} {q : Question} {c : Choice} {e : Nat}

/-! ### The press gate (R115) -/

/-- The press passes the gate for this question, with this e. -/
def passesGate (s : State) (p : Press) (q : Question) (e : Nat) : Prop :=
  openQuestionIs s q ∧ s.clock.timer.place p.stamp = some (.within e) ∧ keyType p.key = q.type

theorem judgePress_stopped (h : ∀ q e, ¬passesGate s p q e) (seat : Seat) : judgePress seat p s = flashSeat seat s := by
  unfold judgePress
  split
  · next q e hopen hq hplace => exact if_pos fun htype => h q e ⟨⟨hopen, hq⟩, hplace, htype⟩
  · rfl

theorem judgePress_buzz (h : passesGate s p q e) (hkey : p.key = .buzz) (seat : Seat) :
    judgePress seat p s = judgeBuzzPress seat e q s := by
  obtain ⟨⟨hopen, hq⟩, hplace, htype⟩ := h
  rw [hkey] at htype
  simp only [judgePress, hopen, hq, hplace, htype, hkey, ne_eq, not_true, if_false]

theorem judgePress_choice (h : passesGate s p q e) (hkey : p.key = .choice c) (seat : Seat) :
    judgePress seat p s = judgeChoicePress seat c e q s := by
  obtain ⟨⟨hopen, hq⟩, hplace, htype⟩ := h
  rw [hkey] at htype
  simp only [judgePress, hopen, hq, hplace, htype, hkey, ne_eq, not_true, if_false]

theorem exec_press (hheld : s.held = false) (hwork : nextWork s = some .press)
    (hp : oldestPress s = some (seat, p)) : exec .press s = .next (settle (pressOf seat p s)) := by
  refine event_next hheld (effect := pressEffect) ?_
  simp only [pressEffect, hp]
  exact occasion_eq_some.mpr ⟨decide_eq_true hwork, rfl⟩

/-! ### Refused presses (R93, R118, R137) -/

theorem judgeBuzzPress_refused (e : Nat) (q : Question) (h : s.panel.seats[seat].buzzed = true
    ∨ lockedOut s s.straps.station seat (teamOf (some s.straps.role)) = true) :
    judgeBuzzPress seat e q s = flashSeat seat s := if_pos h

theorem judgeChoicePress_refused (h : choiceRefused q s.panel.seats[seat].chosen c e = true) :
    judgeChoicePress seat c e q s = flashSeat seat s := if_pos h

/-- A press that has left its latch list and is refused. -/
theorem flashSeat_dropPress (seat : Seat) (s : State) : flashSeat seat (dropPress seat s)
    = { s with panel := { s.panel with seats := putAt s.panel.seats seat { s.panel.seats[seat] with
        latch := s.panel.seats[seat].latch.tail, flash := some (s.clock.now + 500) } } } := by
  rw [flashSeat, dropPress, updateSeat_updateSeat]
  rfl

theorem dropPress_seat (seat : Seat) (s : State) : (dropPress seat s).panel.seats[seat]
    = { s.panel.seats[seat] with latch := s.panel.seats[seat].latch.tail } :=
  putAt_self _ _ _

/-! ### The ANSWER entry (R51, R52) -/

theorem smallestE_mem {l : List PendingAnswer} (h : l ≠ []) : ∃ a ∈ l, smallestE l = a.e ∧ ∀ b ∈ l, a.e ≤ b.e := by
  induction l with
  | nil => exact absurd rfl h
  | cons a rest ih =>
    have hmem : ∃ b ∈ a :: rest, smallestE (a :: rest) = b.e := by
      cases rest with
      | nil => exact ⟨a, by simp, rfl⟩
      | cons b rest =>
        obtain ⟨x, hx, hsmall, -⟩ := ih (by simp)
        rcases Nat.le_total a.e (smallestE (b :: rest)) with hle | hle
        · exact ⟨a, by simp, Nat.min_eq_left hle⟩
        · exact ⟨x, List.mem_cons_of_mem a hx, (Nat.min_eq_right hle).trans hsmall⟩
    obtain ⟨b, hb, hsmall⟩ := hmem
    exact ⟨b, hb, hsmall, fun x hx => hsmall ▸ smallestE_le hx⟩

/-- The answer entry depends on the scheduler and the station alone. -/
theorem refreshAnswer_sched_congr (question : Nat) (hs : t.sched = s.sched) (hp : t.straps = s.straps) :
    (refreshAnswer question t).sched = (refreshAnswer question s).sched := by
  unfold refreshAnswer newEntry place queueFull
  simp only [hs, hp]
  split
  · simp [hs]
  · simp [hs]
  · split <;> simp_all

/-- Of the station the refreshed entry moves the scheduler alone. -/
theorem refreshAnswer_eq (question : Nat) (s : State) :
    refreshAnswer question s = { s with sched := (refreshAnswer question s).sched } := by
  unfold refreshAnswer
  simp only
  split
  · rfl
  · rfl
  · unfold place
    split <;> rfl

theorem recordAnswer_eq (seat : Seat) (c : Choice) (e question : Nat) (s : State) :
    recordAnswer seat c e question s = { s with sched := (recordAnswer seat c e question s).sched } := by
  unfold recordAnswer
  rw [refreshAnswer_eq]
  rfl

theorem recordAnswer_congr (seat : Seat) (c : Choice) (e question : Nat) (hs : t.sched = s.sched)
    (hp : t.straps = s.straps) :
    (recordAnswer seat c e question t).sched = (recordAnswer seat c e question s).sched := by
  have hflight : answerInFlight t = answerInFlight s := by simp [answerInFlight, hs]
  exact refreshAnswer_sched_congr question (by simp [setAnswers, hs, hflight]) hp

/-! ### The pending list (R51) -/

theorem mem_putAnswer {a : PendingAnswer} : ∀ {l : List PendingAnswer}, l.Pairwise (fun x y => x.seat < y.seat) →
    ∀ x, x ∈ putAnswer a l ↔ x = a ∨ (x ∈ l ∧ x.seat ≠ a.seat)
  | [], _, x => by simp [putAnswer]
  | h :: l, hsorted, x => by
    obtain ⟨hh, hrest⟩ := List.pairwise_cons.mp hsorted
    have hlater : ∀ y ∈ l, a.seat ≤ h.seat → y.seat ≠ a.seat := fun y hy hle => (lt_of_le_of_lt hle (hh y hy)).ne'
    unfold putAnswer
    split
    · next heq =>
      have := fun hx => hlater x hx heq.le
      simp only [List.mem_cons]
      refine or_congr_right ⟨fun hx => ⟨.inr hx, this hx⟩, fun ⟨hx, hne⟩ => hx.resolve_left ?_⟩
      rintro rfl
      exact hne heq.symm
    · next hne =>
      split
      · next hlt =>
        simp only [List.mem_cons]
        refine or_congr_right ⟨fun hx => ⟨hx, ?_⟩, fun hx => hx.1⟩
        rcases hx with rfl | hx
        · exact hlt.ne'
        · exact hlater x hx hlt.le
      · rw [List.mem_cons, mem_putAnswer hrest, List.mem_cons]
        constructor
        · rintro (rfl | rfl | ⟨hx, hs⟩)
          · exact .inr ⟨.inl rfl, Ne.symm hne⟩
          · exact .inl rfl
          · exact .inr ⟨.inr hx, hs⟩
        · rintro (rfl | ⟨rfl | hx, hs⟩)
          · exact .inr (.inl rfl)
          · exact .inl rfl
          · exact .inr (.inr ⟨hx, hs⟩)

theorem putAnswer_ordered {a : PendingAnswer} : ∀ {l : List PendingAnswer},
    l.Pairwise (fun x y => x.seat < y.seat) → (putAnswer a l).Pairwise fun x y => x.seat < y.seat
  | [], _ => by simp [putAnswer]
  | h :: l, hsorted => by
    obtain ⟨hh, hrest⟩ := List.pairwise_cons.mp hsorted
    unfold putAnswer
    split
    · next heq => exact List.pairwise_cons.mpr ⟨fun y hy => heq ▸ hh y hy, hrest⟩
    · next hne =>
      split
      · next hlt =>
        refine List.pairwise_cons.mpr ⟨fun y hy => ?_, hsorted⟩
        rcases List.mem_cons.mp hy with rfl | hy
        · exact hlt
        · exact hlt.trans (hh y hy)
      · next hnlt =>
        refine List.pairwise_cons.mpr ⟨fun y hy => ?_, putAnswer_ordered hrest⟩
        rcases (mem_putAnswer hrest y).mp hy with rfl | ⟨hy, -⟩
        · exact lt_of_le_of_ne (not_lt.mp hnlt) (Ne.symm hne)
        · exact hh y hy

theorem putAnswer_ne_nil (a : PendingAnswer) (l : List PendingAnswer) : putAnswer a l ≠ [] := by
  cases l with
  | nil => simp [putAnswer]
  | cons h l =>
    unfold putAnswer
    (repeat' split) <;> simp

/-! ### Inserting beside other entries (R41) -/

theorem insertByKey_filter_out {x : TxEntry} {f : TxEntry → Bool} (hx : f x = false) (l : List TxEntry) :
    (insertByKey x l).filter f = l.filter f := by
  induction l with
  | nil => simp [insertByKey, hx]
  | cons h l ih =>
    unfold insertByKey
    split
    · rw [List.filter_cons_of_neg (by simp [hx])]
    · rw [List.filter_cons, List.filter_cons, ih]

theorem insertByKey_filter_only {x : TxEntry} {f : TxEntry → Bool} {l : List TxEntry} (hx : f x = true)
    (hl : ∀ y ∈ l, f y = false) : (insertByKey x l).filter f = [x] := by
  have hperm := (insertByKey_perm x l).filter f
  have hnil : l.filter f = [] := List.filter_eq_nil_iff.mpr fun y hy => by simp [hl y hy]
  rw [List.filter_cons_of_pos hx, hnil] at hperm
  exact List.perm_singleton.mp hperm

/-- What the queue holds for a pending list that is not empty (R52). -/
theorem refreshAnswer_queue (question : Nat) (hne : s.sched.answers ≠ []) (hroom : s.sched.queue.length < 12)
    (hone : (s.sched.queue.filter TxEntry.isLiveAnswer).length ≤ 1) :
    let queue := (refreshAnswer question s).sched.queue
    (∃ x, queue.filter TxEntry.isLiveAnswer = [x]
      ∧ x.key = mkKey 4 (smallestE s.sched.answers) s.straps.station 0
      ∧ (∀ old ∈ s.sched.queue, old.isLiveAnswer = true → x = { old with key := x.key })
      ∧ ((∀ old ∈ s.sched.queue, old.isLiveAnswer = false) → x = {
          kind := .answer, key := x.key, question := question, values := {}, retry := 0, discard := false
          inFlight := false }))
    ∧ queue.filter (fun x => !x.isLiveAnswer) = s.sched.queue.filter fun x => !x.isLiveAnswer := by
  have hrest : ∀ y ∈ s.sched.queue.filter fun x => !x.isLiveAnswer, y.isLiveAnswer = false := by
    intro y hy
    simpa using (List.mem_filter.mp hy).2
  unfold refreshAnswer
  cases ha : s.sched.answers with
  | nil => exact absurd ha hne
  | cons a rest =>
    cases hf : s.sched.queue.find? TxEntry.isLiveAnswer with
    | some old =>
      have hlive : old.isLiveAnswer = true := List.find?_some hf
      have hold : old ∈ s.sched.queue.filter TxEntry.isLiveAnswer :=
        List.mem_filter.mpr ⟨List.mem_of_find?_eq_some hf, hlive⟩
      obtain ⟨y, hy⟩ := List.length_eq_one_iff.mp (Nat.le_antisymm hone (List.length_pos_of_mem hold))
      have hunique : ∀ x ∈ s.sched.queue, x.isLiveAnswer = true → x = old := by
        intro x hx hlx
        have hx' := List.mem_filter.mpr ⟨hx, hlx⟩
        rw [hy, List.mem_singleton] at hx' hold
        rw [hx', hold]
      simp only [setQueue_sched]
      refine ⟨⟨_, insertByKey_filter_only hlive hrest, rfl, fun x hx hlx => ?_, fun hnone => ?_⟩, ?_⟩
      · rw [hunique x hx hlx]
      · exact absurd hlive (by simp [hnone old (List.mem_of_find?_eq_some hf)])
      · rw [insertByKey_filter_out (by simpa [TxEntry.isLiveAnswer] using hlive), List.filter_filter]
        simp
    | none =>
      have hnone : ∀ x ∈ s.sched.queue, x.isLiveAnswer = false := by simpa using hf
      simp only
      rw [place_room _ _ hroom]
      refine ⟨⟨_, insertByKey_filter_only rfl hnone, rfl, fun x hx hlx => ?_, fun _ => rfl⟩,
        insertByKey_filter_out rfl _⟩
      exact absurd hlx (by simp [hnone x hx])

end Sys2Proof.Machine
end

section

open Sys2Proof Sys2Proof.Machine Sys2Proof.Safety

/-- Settles O27: a press that the gate stops, or that its unit refuses. -/
theorem refusedPressOnlyFlashes : Obligations.RefusedPressOnlyFlashes := by
  intro s seat p hheld hwork hp h
  rw [exec_press hheld hwork hp, ← flashSeat_dropPress, pressOf]
  congr 2
  by_cases hgate : ∃ q e, passesGate (dropPress seat s) p q e
  · obtain ⟨q, e, hpass⟩ := hgate
    have hdrop := dropPress_seat seat s
    obtain ⟨⟨hopen, hq⟩, hplace, htype⟩ := id hpass
    change s.engine.state.isOpen = true at hopen
    change s.engine.question = some q at hq
    change s.clock.timer.place p.stamp = some (.within e) at hplace
    cases hkey : p.key with
    | buzz =>
      rw [judgePress_buzz hpass hkey]
      refine judgeBuzzPress_refused e q ?_
      rw [hdrop]
      change s.panel.seats[seat].buzzed = true ∨ lockedOut s s.straps.station seat (teamOf (some s.straps.role)) = true
      have hbuzz : q.type ≠ .poll := by rw [← htype, hkey]; decide
      simp_all [openQuestionIs]
    | choice c =>
      rw [judgePress_choice hpass hkey]
      refine judgeChoicePress_refused ?_
      rw [hdrop]
      have hpoll : q.type ≠ .buzz := by rw [← htype, hkey]; exact QuestionType.noConfusion
      simp only [openQuestionIs, hopen, hq, hkey, hplace, Option.some.injEq, PadKey.choice.injEq] at h
      rcases h with h | ⟨_, _, _, h⟩ | ⟨_, _, ⟨_, rfl⟩, h, _⟩ | h | h | h | ⟨h, _⟩ | ⟨_, _, ⟨_, rfl⟩, rfl, h⟩
        | ⟨_, _, ⟨_, rfl⟩, _, hmode, h⟩ | ⟨_, _, old, ⟨_, rfl⟩, rfl, hmode, hold, h⟩
        | ⟨_, _, old, _, ⟨_, rfl⟩, _, hmode, hold, h, hle⟩
      · cases h
      · cases h
      · exact absurd h hpoll
      · cases h
      · cases h
      · cases h
      · cases h
      · simp [choiceRefused, h]
      · obtain ⟨old, hold⟩ := Option.isSome_iff_exists.mp h
        rw [hold]
        simp [choiceRefused, hmode]
      · rw [hold]
        simp [choiceRefused, hmode, h]
      · cases h
        rw [hold]
        simp [choiceRefused, hmode, hle]
  · exact judgePress_stopped (fun q e hpass => hgate ⟨q, e, hpass⟩) seat

/-- Settles O28: the BUZZ entry placed, and the chosen answer recorded. -/
theorem acceptedPressesTakeTheirEffect : Obligations.AcceptedPressesTakeTheirEffect := by
  refine ⟨fun s seat p q e hheld hwork hp hkey ho htype hplace hbuzzed hlocked hroom => ?_,
    fun s seat p q c e hheld hwork hp hkey ho htype hplace hc hchosen => ?_⟩
  · have hpass : passesGate (dropPress seat s) p q e := ⟨ho, hplace, by rw [hkey, htype]; rfl⟩
    have hdrop := dropPress_seat seat s
    rw [exec_press hheld hwork hp, pressOf, judgePress_buzz hpass hkey, judgeBuzzPress, hdrop, if_neg,
      place_room (updateSeat seat _ (dropPress seat s)) _ hroom, dropPress, updateSeat_updateSeat]
    · rfl
    · rintro (h | h)
      · exact Bool.false_ne_true (hbuzzed.symm.trans h)
      · exact Bool.false_ne_true (hlocked.symm.trans h)
  · have hpass : passesGate (dropPress seat s) p q e := ⟨ho, hplace, by rw [hkey, htype]; rfl⟩
    have hdrop := dropPress_seat seat s
    have hpassed : choiceRefused q s.panel.seats[seat].chosen c e = false := by
      obtain hnone | ⟨old, hold, hmode, hother, hlater⟩ := hchosen
      · rw [hnone]
        simp [choiceRefused, hc]
      · rw [hold]
        simp [choiceRefused, hmode, hc, hother, hlater]
    rw [exec_press hheld hwork hp, pressOf, judgePress_choice hpass hkey, judgeChoicePress, hdrop, hpassed,
      if_neg Bool.false_ne_true, recordAnswer_eq, recordAnswer_congr (s := s)
        (t := updateSeat seat _ (dropPress seat s)) seat c e q.number rfl rfl, dropPress,
      updateSeat_updateSeat]
    rfl

/-- Settles O29: the list put in order, and the one entry that stands for it. -/
theorem pendingAnswersStandAsOneEntry : Obligations.PendingAnswersStandAsOneEntry := by
  intro s seat c e question hroom hsorted hone
  have hanswers : (recordAnswer seat c e question s).sched.answers
      = putAnswer { seat := seat, choice := c, e := e, changed := answerInFlight s } s.sched.answers :=
    refreshAnswer_answers question
  obtain ⟨⟨x, hx, hkey, hold, hnew⟩, hrest⟩ := refreshAnswer_queue (s := setAnswers
    (putAnswer { seat := seat, choice := c, e := e, changed := answerInFlight s } s.sched.answers) s) question
    (putAnswer_ne_nil _ _) hroom hone
  obtain ⟨least, hmem, hsmall, hleast⟩ := smallestE_mem
    (putAnswer_ne_nil { seat := seat, choice := c, e := e, changed := answerInFlight s } s.sched.answers)
  refine ⟨by simp [answerInFlight], fun x => by simp [TxEntry.isLiveAnswer], by simp [changesOnly], ?_, fun a => ?_,
    ⟨x, hx, ⟨least, ?_, hkey.trans (by rw [← hsmall]; rfl), ?_⟩, hold, hnew⟩, hrest⟩
  · rw [hanswers]
    exact putAnswer_ordered hsorted
  · rw [hanswers, mem_putAnswer hsorted]
  · rw [hanswers]
    exact hmem
  · rw [hanswers]
    exact hleast

end

section
/-! PROOFS. The round engine's order of work: the oldest press, when each item is ready, and which of them goes first
(R80, R83, R88, R101, R114, R178). -/

namespace Sys2Proof.Machine

open Sys2Proof.Safety

variable {s : State} {seat : Seat} {p : Press} {f : RxEntry} {t i d : Stamp}

/-! ### The oldest press (R88) -/

theorem before_iff_le {a b : Stamp} : Machine.before a b = true ↔ 2 ^ 31 ≤ (a - b).toNat := by
  simp [Machine.before, atOrAfter]

/-- Of two stamps that the clock has reached, the one before has the greater age. -/
theorem before_iff_older {now a b : Stamp} (ha : (now - a).toNat < 2 ^ 31) (hb : (now - b).toNat < 2 ^ 31) :
    Machine.before a b = true ↔ (now - b).toNat < (now - a).toNat := by
  rw [before_iff_le]
  bv_omega

/-- One seat's first press against the oldest so far. -/
def olderPress (s : State) (best : Option (Seat × Press)) (seat : Seat) : Option (Seat × Press) :=
  match s.panel.seats[seat].latch, best with
  | [], _ => best
  | p :: _, none => some (seat, p)
  | p :: _, some b => if Machine.before p.stamp b.2.stamp then some (seat, p) else best

theorem oldestPress_eq (s : State) : oldestPress s = (List.finRange 8).foldl (olderPress s) none := rfl

/-- The first press of a seat's latch list. -/
def firstPress (s : State) (seat : Seat) : Option Press := s.panel.seats[seat].latch.head?

/-- The clock has reached every first press. -/
def allReached (s : State) : Prop := ∀ i x, firstPress s i = some x → (s.clock.now - x.stamp).toNat < 2 ^ 31

/-- The press of this seat is first of its list, and none of the seats seen has an older one, nor a lower one of its
stamp. -/
def oldestOf (s : State) (seen : List Seat) (seat : Seat) (p : Press) : Prop :=
  firstPress s seat = some p ∧ (allReached s → ∀ i ∈ seen, ∀ x, firstPress s i = some x →
    (s.clock.now - x.stamp).toNat ≤ (s.clock.now - p.stamp).toNat ∧ (x.stamp = p.stamp → seat ≤ i))

/-- The best of the seats seen so far, where one of them has a press. -/
def bestOf (s : State) (seen : List Seat) (best : Option (Seat × Press)) : Prop :=
  (best = none → ∀ i ∈ seen, firstPress s i = none)
    ∧ ∀ seat p, best = some (seat, p) → seat ∈ seen ∧ oldestOf s seen seat p

theorem olderPress_none {best : Option (Seat × Press)} (h : firstPress s seat = none) :
    olderPress s best seat = best := by
  have hl : s.panel.seats[seat].latch = [] := List.head?_eq_none_iff.mp h
  unfold olderPress
  rw [hl]

theorem olderPress_first (h : firstPress s seat = some p) : olderPress s none seat = some (seat, p) := by
  obtain ⟨rest, hl⟩ := List.head?_eq_some_iff.mp h
  unfold olderPress
  rw [hl]

theorem olderPress_some {b : Seat × Press} (h : firstPress s seat = some p) :
    olderPress s (some b) seat = if Machine.before p.stamp b.2.stamp then some (seat, p) else some b := by
  obtain ⟨rest, hl⟩ := List.head?_eq_some_iff.mp h
  unfold olderPress
  rw [hl]

theorem olderPress_best {seen : List Seat} {best : Option (Seat × Press)} (hlater : ∀ i ∈ seen, i < seat)
    (h : bestOf s seen best) : bestOf s (seen ++ [seat]) (olderPress s best seat) := by
  obtain ⟨hnone, hsome⟩ := h
  cases hf : firstPress s seat with
  | none =>
    rw [olderPress_none hf]
    refine ⟨fun hb i hi => ?_, fun best p hb => ?_⟩
    · rcases List.mem_append.mp hi with hi | hi
      · exact hnone hb i hi
      · rwa [List.mem_singleton.mp hi]
    · obtain ⟨hmem, hfirst, hold⟩ := hsome best p hb
      refine ⟨List.mem_append_left _ hmem, hfirst, fun hall i hi x hx => ?_⟩
      rcases List.mem_append.mp hi with hi | hi
      · exact hold hall i hi x hx
      · rw [List.mem_singleton.mp hi, hf] at hx
        cases hx
  | some p =>
    have hself : ∀ x, firstPress s seat = some x → x = p := fun x hx => by rw [hf] at hx; exact (Option.some.inj hx).symm
    cases hb : best with
    | none =>
      rw [olderPress_first hf]
      refine ⟨fun h => (Option.some_ne_none _ h).elim, fun i x hx => ?_⟩
      obtain ⟨rfl, rfl⟩ := Prod.mk.inj (Option.some.inj hx)
      refine ⟨by simp, hf, fun _ j hj y hy => ?_⟩
      rcases List.mem_append.mp hj with hj | hj
      · rw [hnone hb j hj] at hy
        cases hy
      · rw [List.mem_singleton.mp hj] at hy ⊢
        rw [hself y hy]
        exact ⟨Nat.le_refl _, fun _ => Nat.le_refl _⟩
    | some b =>
      obtain ⟨holder, q⟩ := b
      obtain ⟨hmem, hfirst, hold⟩ := hsome holder q hb
      rw [olderPress_some hf]
      split
      · next hbefore =>
        refine ⟨fun h => (Option.some_ne_none _ h).elim, fun i x hx => ?_⟩
        obtain ⟨rfl, rfl⟩ := Prod.mk.inj (Option.some.inj hx)
        refine ⟨by simp, hf, fun hall j hj y hy => ?_⟩
        have hless := (before_iff_older (hall _ _ hf) (hall _ _ hfirst)).mp hbefore
        rcases List.mem_append.mp hj with hj | hj
        · have hle := (hold hall j hj y hy).1
          exact ⟨hle.trans hless.le, fun he => by rw [he] at hle; omega⟩
        · rw [List.mem_singleton.mp hj] at hy ⊢
          rw [hself y hy]
          exact ⟨Nat.le_refl _, fun _ => Nat.le_refl _⟩
      · next hbefore =>
        refine ⟨fun h => (Option.some_ne_none _ h).elim, fun i x hx => ?_⟩
        obtain ⟨rfl, rfl⟩ := Prod.mk.inj (Option.some.inj hx)
        refine ⟨List.mem_append_left _ hmem, hfirst, fun hall j hj y hy => ?_⟩
        rcases List.mem_append.mp hj with hj | hj
        · exact hold hall j hj y hy
        · rw [List.mem_singleton.mp hj] at hy ⊢
          rw [hself y hy]
          have hage := mt (before_iff_older (hall _ _ hf) (hall _ _ hfirst)).mpr hbefore
          exact ⟨Nat.not_lt.mp hage, fun _ => (hlater _ hmem).le⟩

theorem foldl_olderPress_best : ∀ (rest seen : List Seat) (best : Option (Seat × Press)),
    (seen ++ rest).Pairwise (· < ·) → bestOf s seen best → bestOf s (seen ++ rest) (rest.foldl (olderPress s) best)
  | [], seen, best, _, h => by simpa using h
  | seat :: rest, seen, best, hsorted, h => by
    have hlater : ∀ i ∈ seen, i < seat := fun i hi => (List.pairwise_append.mp hsorted).2.2 i hi seat (by simp)
    have ih := foldl_olderPress_best rest (seen ++ [seat]) (olderPress s best seat) (by simpa using hsorted)
      (olderPress_best hlater h)
    simpa using ih

theorem oldestPress_best (s : State) : bestOf s (List.finRange 8) (oldestPress s) := by
  have h := foldl_olderPress_best (s := s) (List.finRange 8) [] none (by decide)
    ⟨fun _ _ hi => (List.not_mem_nil hi).elim, fun _ _ h => (Option.some_ne_none _ h.symm).elim⟩
  simpa [oldestPress_eq] using h

/-! ### When each item is ready (R83, R101, R178) -/

theorem dueExpiry_eq_some : dueExpiry s = some i ↔ s.clock.timer.cond = .running ∧ s.clock.timer.due = true
    ∧ i = s.clock.timer.origin + s.clock.timer.offset + BitVec.ofNat 32 s.clock.timer.limit := by
  simp [dueExpiry, Timer.expiryInstant, ms, and_assoc, eq_comm (a := i)]

theorem dueDeadline_eq_some : dueDeadline s = some i ↔ s.roster.catchUp.state = .waiting
    ∧ s.roster.catchUp.deadline = some i ∧ (s.clock.now - i).toNat < 2 ^ 31 := by
  unfold dueDeadline
  cases hs : s.roster.catchUp.state with
  | none | done => simp
  | waiting =>
    cases hd : s.roster.catchUp.deadline with
    | none => simp
    | some x =>
      simp only [Option.ite_none_right_eq_some, Option.some.injEq, true_and]
      constructor
      · rintro ⟨h, rfl⟩
        exact ⟨rfl, atOrAfter_iff.mp h⟩
      · rintro ⟨rfl, h⟩
        exact ⟨atOrAfter_iff.mpr h, rfl⟩

theorem reachedBy_eq_false {x : Option Stamp} :
    reachedBy x t = false ↔ ∀ i, x = some i → Machine.before t i = true := by
  cases x <;> simp [reachedBy, Machine.before]

/-- The oldest press may be taken, as R101 has it. -/
def eligiblePress (s : State) (p : Press) : Prop :=
  p.stamp ≠ s.clock.now ∧ atOrAfter s.clock.now p.stamp = true
    ∧ (∀ f ∈ waiting s, Machine.before p.stamp f.stamp = true)
    ∧ (∀ i, dueExpiry s = some i → Machine.before p.stamp i = true)
    ∧ ∀ i, dueDeadline s = some i → Machine.before p.stamp i = true

/-- An instant that is due, with no frame stamped before it waiting. -/
def instantReady (due : Option Stamp) (s : State) (i : Stamp) : Prop :=
  due = some i ∧ ∀ f ∈ waiting s, Machine.before f.stamp i = false

/-- The front frame may be taken, as R101 has it. -/
def frameReady (s : State) (f : RxEntry) : Prop :=
  s.store.queue.head? = some f ∧ f.claimed = false ∧ s.engine.pass = none ∧ s.engine.state ≠ .scoring
    ∧ (∀ i, dueExpiry s = some i → Machine.before f.stamp i = true)
    ∧ ∀ i, dueDeadline s = some i → Machine.before f.stamp i = true

theorem expiryItem_eq_some : expiryItem s = some i ↔ instantReady (dueExpiry s) s i := by
  simp [expiryItem, instantReady, Option.filter_eq_some_iff]

theorem deadlineItem_eq_some : deadlineItem s = some i ↔ instantReady (dueDeadline s) s i := by
  simp [deadlineItem, instantReady, Option.filter_eq_some_iff]

theorem pressItem_eq_some :
    pressItem s = some t ↔ ∃ seat p, oldestPress s = some (seat, p) ∧ eligiblePress s p ∧ p.stamp = t := by
  unfold pressItem
  cases ho : oldestPress s with
  | none => simp
  | some b =>
    obtain ⟨seat, p⟩ := b
    simp only [Option.ite_none_right_eq_some, Option.some.injEq, Bool.not_eq_true', reachedBy_eq_false,
      List.all_eq_true, Prod.mk.injEq]
    constructor
    · rintro ⟨⟨hnow, hpast, hexpiry, hdeadline, hframes⟩, rfl⟩
      exact ⟨seat, p, ⟨rfl, rfl⟩, ⟨hnow, hpast, hframes, hexpiry, hdeadline⟩, rfl⟩
    · rintro ⟨_, _, ⟨rfl, rfl⟩, ⟨hnow, hpast, hframes, hexpiry, hdeadline⟩, rfl⟩
      exact ⟨⟨hnow, hpast, hexpiry, hdeadline, hframes⟩, rfl⟩

theorem frameItem_eq_some : frameItem s = some t ↔ ∃ f, frameReady s f ∧ f.stamp = t := by
  unfold frameItem frameReady
  cases hq : s.store.queue with
  | nil => simp
  | cons g rest =>
    simp only [Option.ite_none_right_eq_some, Option.some.injEq, Bool.not_eq_true', reachedBy_eq_false,
      List.head?_cons, Option.isNone_iff_eq_none]
    constructor
    · rintro ⟨hready, rfl⟩
      exact ⟨g, ⟨rfl, hready⟩, rfl⟩
    · rintro ⟨f, ⟨rfl, hready⟩, rfl⟩
      exact ⟨hready, rfl⟩

/-! ### Which goes first (R101) -/

/-- A press or a frame that is ready comes before an expiry or a deadline that is due. -/
theorem turn_before_due {work : Work} {instant : Work} (hturn : earlier ((pressItem s).map fun t => (Work.press, t))
    ((frameItem s).map fun t => (Work.frame, t)) = some (work, t))
    (hdue : earlier ((expiryItem s).map fun t => (Work.expiry, t)) ((deadlineItem s).map fun t => (Work.deadline, t))
      = some (instant, i)) : Machine.before t i = true := by
  have hi : dueExpiry s = some i ∨ dueDeadline s = some i := by
    rcases earlier_eq_some hdue with h | h
    · obtain ⟨j, hj, he⟩ := Option.map_eq_some_iff.mp h
      cases he
      exact .inl (expiryItem_eq_some.mp hj).1
    · obtain ⟨j, hj, he⟩ := Option.map_eq_some_iff.mp h
      cases he
      exact .inr (deadlineItem_eq_some.mp hj).1
  rcases earlier_eq_some hturn with h | h
  · obtain ⟨u, hu, he⟩ := Option.map_eq_some_iff.mp h
    cases he
    obtain ⟨seat, p, -, ⟨-, -, -, hexpiry, hdeadline⟩, rfl⟩ := pressItem_eq_some.mp hu
    exact hi.elim (hexpiry i) (hdeadline i)
  · obtain ⟨u, hu, he⟩ := Option.map_eq_some_iff.mp h
    cases he
    obtain ⟨f, ⟨-, -, -, -, hexpiry, hdeadline⟩, rfl⟩ := frameItem_eq_some.mp hu
    exact hi.elim (hexpiry i) (hdeadline i)

/-- Of two items the one that goes first, the left one of equal stamps. -/
def firstOf (x y : Work) (a b : Option Stamp) : Option Work :=
  (earlier (a.map fun t => (x, t)) (b.map fun t => (y, t))).map (·.1)

theorem firstOf_eq_none {x y : Work} {a b : Option Stamp} : firstOf x y a b = none ↔ a = none ∧ b = none := by
  cases a with
  | none => cases b <;> simp [firstOf, earlier]
  | some t =>
    cases b with
    | none => simp [firstOf, earlier]
    | some u => simp only [firstOf, earlier, Option.map_some]; split <;> simp

theorem firstOf_eq_left {x y : Work} (hne : y ≠ x) {a b : Option Stamp} : firstOf x y a b = some x
    ↔ ∃ t, a = some t ∧ ∀ u, b = some u → Machine.before u t = false := by
  cases a with
  | none => cases b <;> simp [firstOf, earlier, hne]
  | some t =>
    cases b with
    | none => simp [firstOf, earlier]
    | some u => simp only [firstOf, earlier, Option.map_some]; split <;> simp_all

theorem firstOf_eq_right {x y : Work} (hne : x ≠ y) {a b : Option Stamp} : firstOf x y a b = some y
    ↔ ∃ u, b = some u ∧ ∀ t, a = some t → Machine.before u t = true := by
  cases a with
  | none => cases b <;> simp [firstOf, earlier]
  | some t =>
    cases b with
    | none => simp [firstOf, earlier, hne]
    | some u => simp only [firstOf, earlier, Option.map_some]; split <;> simp_all

theorem firstOf_other {x y z : Work} (hx : x ≠ z) (hy : y ≠ z) (a b : Option Stamp) : firstOf x y a b ≠ some z := by
  intro h
  obtain ⟨⟨work, t⟩, he, hz⟩ := Option.map_eq_some_iff.mp h
  rcases earlier_eq_some he with h | h <;> obtain ⟨u, -, hu⟩ := Option.map_eq_some_iff.mp h <;> cases hu
  · exact hx hz
  · exact hy hz

/-- So a press or a frame goes first where there is one, and an expiry or a deadline otherwise. -/
theorem nextWork_eq (s : State) : nextWork s = (firstOf .press .frame (pressItem s) (frameItem s)).or
    (firstOf .expiry .deadline (expiryItem s) (deadlineItem s)) := by
  unfold nextWork firstOf
  cases hturn : earlier ((pressItem s).map fun t => (Work.press, t)) ((frameItem s).map fun t => (Work.frame, t)) with
  | none =>
    cases earlier ((expiryItem s).map fun t => (Work.expiry, t)) ((deadlineItem s).map fun t => (Work.deadline, t)) <;>
      rfl
  | some x =>
    obtain ⟨work, t⟩ := x
    cases hdue : earlier ((expiryItem s).map fun t => (Work.expiry, t))
        ((deadlineItem s).map fun t => (Work.deadline, t)) with
    | none => rfl
    | some y =>
      obtain ⟨instant, i⟩ := y
      simp [earlier, turn_before_due hturn hdue]

theorem nextWork_turn {work : Work} (he : Work.expiry ≠ work) (hd : Work.deadline ≠ work) :
    nextWork s = some work ↔ firstOf .press .frame (pressItem s) (frameItem s) = some work := by
  rw [nextWork_eq, Option.or_eq_some_iff]
  exact or_iff_left fun h => firstOf_other he hd _ _ h.2

theorem nextWork_due {work : Work} (hp : Work.press ≠ work) (hf : Work.frame ≠ work) : nextWork s = some work
    ↔ (pressItem s = none ∧ frameItem s = none)
      ∧ firstOf .expiry .deadline (expiryItem s) (deadlineItem s) = some work := by
  rw [nextWork_eq, Option.or_eq_some_iff, firstOf_eq_none]
  exact or_iff_right (firstOf_other hp hf _ _)

theorem nextWork_none : nextWork s = none ↔ (pressItem s = none ∧ frameItem s = none)
    ∧ expiryItem s = none ∧ deadlineItem s = none := by
  rw [nextWork_eq, Option.or_eq_none_iff, firstOf_eq_none, firstOf_eq_none]

/-! ### In the words of R101 -/

theorem pressItem_eq_none :
    pressItem s = none ↔ ∀ seat p, oldestPress s = some (seat, p) → ¬eligiblePress s p := by
  rw [Option.eq_none_iff_forall_not_mem]
  refine ⟨fun h seat p ho he => h p.stamp (pressItem_eq_some.mpr ⟨seat, p, ho, he, rfl⟩), fun h t ht => ?_⟩
  obtain ⟨seat, p, ho, he, -⟩ := pressItem_eq_some.mp ht
  exact h seat p ho he

theorem frameItem_eq_none : frameItem s = none ↔ ∀ f, ¬frameReady s f := by
  rw [Option.eq_none_iff_forall_not_mem]
  refine ⟨fun h f hf => h f.stamp (frameItem_eq_some.mpr ⟨f, hf, rfl⟩), fun h t ht => ?_⟩
  obtain ⟨f, hf, -⟩ := frameItem_eq_some.mp ht
  exact h f hf

/-- A frame that is ready is stamped before every instant that is due, so none of those is ready. -/
theorem frameReady_first (h : frameReady s f) : (∀ i, ¬instantReady (dueExpiry s) s i)
    ∧ ∀ i, ¬instantReady (dueDeadline s) s i := by
  obtain ⟨hfront, -, hpass, -, hexpiry, hdeadline⟩ := h
  have hwaits : f ∈ waiting s := by simpa [waiting, hpass] using List.mem_of_head? hfront
  exact ⟨fun i hi => absurd (hi.2 f hwaits) (by simp [hexpiry i hi.1]),
    fun i hi => absurd (hi.2 f hwaits) (by simp [hdeadline i hi.1])⟩

end Sys2Proof.Machine
end

section

open Sys2Proof Sys2Proof.Machine Sys2Proof.Safety

/-- Settles O30: the oldest press, the items that are ready, and the first of them. -/
theorem engineWorksInStampOrder : Obligations.EngineWorksInStampOrder := by
  refine ⟨fun t u => ⟨atOrAfter_iff, before_iff_le⟩, fun s => ⟨?_, fun i => dueExpiry_eq_some,
    fun i => dueDeadline_eq_some, ?_, fun seat p ho => ?_, ?_, ?_, ?_, ?_, ?_⟩⟩
  · unfold waiting
    cases s.engine.pass <;> rfl
  · obtain ⟨hnone, hsome⟩ := oldestPress_best s
    refine ⟨fun h seat => List.head?_eq_none_iff.mp (hnone h seat (List.mem_finRange seat)), fun h => ?_⟩
    cases ho : oldestPress s with
    | none => rfl
    | some b =>
      have hfirst := (hsome b.1 b.2 ho).2.1
      rw [firstPress, h b.1] at hfirst
      cases hfirst
  · obtain ⟨-, hfirst, hold⟩ := (oldestPress_best s).2 seat p ho
    exact ⟨hfirst, fun hall i x hx => hold hall i (List.mem_finRange i) x hx⟩
  · rw [nextWork_turn (by decide) (by decide), firstOf_eq_left (by decide)]
    constructor
    · rintro ⟨t, ht, hframe⟩
      obtain ⟨seat, p, ho, he, rfl⟩ := pressItem_eq_some.mp ht
      exact ⟨seat, p, ho, he, fun f hf => hframe _ (frameItem_eq_some.mpr ⟨f, hf, rfl⟩)⟩
    · rintro ⟨seat, p, ho, he, hframe⟩
      refine ⟨p.stamp, pressItem_eq_some.mpr ⟨seat, p, ho, he, rfl⟩, fun u hu => ?_⟩
      obtain ⟨f, hf, rfl⟩ := frameItem_eq_some.mp hu
      exact hframe f hf
  · rw [nextWork_due (by decide) (by decide), firstOf_eq_left (by decide), pressItem_eq_none, frameItem_eq_none]
    simp only [expiryItem_eq_some, deadlineItem_eq_some]
    exact ⟨fun ⟨⟨hpress, _⟩, hi⟩ => ⟨hpress, hi⟩,
      fun ⟨hpress, i, hi, hd⟩ => ⟨⟨hpress, fun f hf => (frameReady_first hf).1 i hi⟩, i, hi, hd⟩⟩
  · rw [nextWork_due (by decide) (by decide), firstOf_eq_right (by decide), pressItem_eq_none, frameItem_eq_none]
    simp only [expiryItem_eq_some, deadlineItem_eq_some]
    exact ⟨fun ⟨⟨hpress, _⟩, hd⟩ => ⟨hpress, hd⟩,
      fun ⟨hpress, d, hd, hi⟩ => ⟨⟨hpress, fun f hf => (frameReady_first hf).2 d hd⟩, d, hd, hi⟩⟩
  · rw [nextWork_turn (by decide) (by decide), firstOf_eq_right (by decide)]
    constructor
    · rintro ⟨u, hu, hpress⟩
      obtain ⟨f, hf, rfl⟩ := frameItem_eq_some.mp hu
      exact ⟨f, hf, fun seat p ho he => hpress _ (pressItem_eq_some.mpr ⟨seat, p, ho, he, rfl⟩)⟩
    · rintro ⟨f, hf, hpress⟩
      refine ⟨f.stamp, frameItem_eq_some.mpr ⟨f, hf, rfl⟩, fun t ht => ?_⟩
      obtain ⟨seat, p, ho, he, rfl⟩ := pressItem_eq_some.mp ht
      exact hpress seat p ho he
  · rw [nextWork_none, pressItem_eq_none, frameItem_eq_none, Option.eq_none_iff_forall_not_mem,
      Option.eq_none_iff_forall_not_mem]
    simp only [Option.mem_def, expiryItem_eq_some, deadlineItem_eq_some]
    exact ⟨fun ⟨⟨hpress, hframe⟩, hi, hd⟩ => ⟨hpress, hi, hd, hframe⟩,
      fun ⟨hpress, hi, hd, hframe⟩ => ⟨⟨hpress, hframe⟩, hi, hd⟩⟩

end

section
/-! PROOFS. The frames that the round engine takes: the key station heard, the question test, and the frames that end,
halt and resume a question (R66, R81, R102, R103, R108 to R111, R168). -/

namespace Sys2Proof.Machine

open Sys2Proof.Safety

variable {s u : State} {f : RxEntry} {q : Question} {k : Kind} {why : Reason}

/-! ### The key station (R102, R168) -/

theorem hearFrame_declared {t : Team} (h : declaredTeam f = some t) (s : State) :
    hearFrame f s = setCode (keyStation f.key) (.desk t) (setPresent (keyStation f.key) s) := by
  simp only [hearFrame, h]

theorem hearFrame_undeclared (h : declaredTeam f = none) (s : State) :
    hearFrame f s = setPresent (keyStation f.key) s := by
  simp only [hearFrame, h]

theorem setCode_watchFired (st : Station) (code : Role) (s : State) :
    (setCode st code s).roster.watchFired = s.roster.watchFired := by
  by_cases hst : st = s.straps.station
  · rw [hst, setCode_own]
  by_cases hcode : (rosterOf s st).code = some code
  · rw [setCode_known s hcode]
  · rw [setCode_roster hst hcode]

theorem setPresent_watchFired (st : Station) (s : State) :
    (setPresent st s).roster.watchFired = s.roster.watchFired := by
  unfold setPresent
  split <;> rfl

/-- Of the roster the hearing of a frame moves the station table alone. -/
theorem hearFrame_roster (f : RxEntry) (s : State) : (hearFrame f s).roster.catchUp = s.roster.catchUp
    ∧ (hearFrame f s).roster.watchFired = s.roster.watchFired := by
  cases hd : declaredTeam f with
  | none =>
    rw [hearFrame_undeclared hd]
    exact ⟨setPresent_catchUp s _, setPresent_watchFired _ s⟩
  | some t =>
    rw [hearFrame_declared hd, (setCode_keeps _ _ _).1, setCode_watchFired]
    exact ⟨setPresent_catchUp s _, setPresent_watchFired _ s⟩

theorem hearFrame_own (h : keyStation f.key = s.straps.station) : hearFrame f s = s := by
  cases hd : declaredTeam f with
  | none => rw [hearFrame_undeclared hd, h, setPresent_own]
  | some t => rw [hearFrame_declared hd, h, setPresent_own, setCode_own]

theorem rosterOf_setPresent {st : Station} (hst : st ≠ s.straps.station) (x : Station) :
    rosterOf (setPresent st s) x = if st = x then { rosterOf s st with present := true } else rosterOf s x := by
  rw [setPresent_other s hst, rosterOf_setEntry]

/-- What the hearing of another station's frame makes of the station table. -/
theorem rosterOf_hearFrame (hst : keyStation f.key ≠ s.straps.station) (x : Station) : rosterOf (hearFrame f s) x
    = if keyStation f.key = x then
        { code := ((declaredTeam f).map Role.desk).or (rosterOf s x).code, present := true }
      else rosterOf s x := by
  cases hd : declaredTeam f with
  | none =>
    rw [hearFrame_undeclared hd, rosterOf_setPresent hst]
    split
    · next hx => rw [hx]; rfl
    · rfl
  | some t =>
    have hst' : keyStation f.key ≠ (setPresent (keyStation f.key) s).straps.station := by simpa using hst
    rw [hearFrame_declared hd, rosterOf_setCode _ hst', rosterOf_setPresent hst, rosterOf_setPresent hst]
    by_cases hx : keyStation f.key = x <;> simp [hx]

theorem clampTeam_eq {n : Nat} {t : Team} (h : t.val + 1 = max 1 (min n 7)) : clampTeam n = t := by
  apply Fin.ext
  simp only [clampTeam]
  omega

/-! ### The question test (R102, R103) -/

theorem questionFault_hearFrame : questionFault (hearFrame f s) f = questionFault s f := by
  simp [questionFault]

/-- The number of the open question passes the test, unless its type or the round state does not fit the kind. -/
theorem questionFault_none (ho : openQuestionIs s q) (hn : clampNumber (numAt f.body 0) = q.number)
    (hbuzz : f.kind = .buzz ∨ f.kind = .verdict → q.type = .buzz)
    (hpoll : f.kind = .answer ∨ f.kind = .reveal → q.type = .poll)
    (hhalt : f.kind = .halt → s.engine.state = .opened) (hresume : f.kind = .resume → s.engine.state = .halted) :
    questionFault s f = none := by
  unfold questionFault
  simp only [ho.1, ho.2, hn]
  rw [if_neg (by simp), if_neg fun h => by simp [hbuzz h.2] at h, if_neg fun h => by simp [hpoll h.2] at h,
    if_neg fun h => h.2 (hhalt h.1), if_neg fun h => h.2 (hresume h.1)]

theorem withQuestion_refused {deal : RxEntry → Question → State → State} (hf : questionFault s f = some why) :
    withQuestion deal f s = refuseFrame f why s := by
  simp only [withQuestion, questionTest_error hf]

theorem withQuestion_dealt {deal : RxEntry → Question → State → State} (ho : openQuestionIs s q)
    (hf : questionFault s f = none) : withQuestion deal f s = deal f q s := by
  simp only [withQuestion, questionTest_ok ho hf]

theorem exec_questionRefused {deal : RxEntry → Question → State → State} (h : frontTurn s f) (hk : f.kind = k)
    (hf : questionFault s f = some why) : event (takeFront k (withQuestion deal)) s
      = .next (settle (releaseFront (refuseFrame f why (hearFrame f s)))) := by
  obtain ⟨_, -, -, hpass, -⟩ := frontTurn_facts h
  have hdealt : withQuestion deal f (hearFrame f s) = refuseFrame f why (hearFrame f s) :=
    withQuestion_refused (questionFault_hearFrame.trans hf)
  rw [takeFront_released h hk (by rw [hdealt]; simp [hpass]), hdealt]

theorem exec_questionDealt {deal : RxEntry → Question → State → State} (h : frontTurn s f) (hk : f.kind = k)
    (ho : openQuestionIs s q) (hf : questionFault s f = none)
    (hpass : (deal f q (hearFrame f s)).engine.pass = none) : event (takeFront k (withQuestion deal)) s
      = .next (settle (releaseFront (deal f q (hearFrame f s)))) := by
  have hdealt : withQuestion deal f (hearFrame f s) = deal f q (hearFrame f s) :=
    withQuestion_dealt (by simpa [openQuestionIs] using ho) (questionFault_hearFrame.trans hf)
  rw [takeFront_released h hk (by rw [hdealt]; exact hpass), hdealt]

/-! ### The timer's requests (R81) -/

theorem halt_running {t : Timer} (h : t.cond = .running) (stamp : Stamp) : t.halt stamp = { t with
    cond := .halted, haltStamp := some stamp, due := false
    warned := t.warned
      && t.warnPoint.all fun p => notBefore stamp (t.origin + t.offset + BitVec.ofNat 32 p) } := by
  rw [Timer.halt, if_pos h, Timer.warnInstant]
  cases hw : t.warnPoint <;> rfl

theorem resume_halted {t : Timer} {stop : Stamp} (h : t.cond = .halted) (hh : t.haltStamp = some stop)
    (stamp now : Stamp) : t.resume stamp now = { t with
      cond := .running, previous := some { start := t.start, offset := t.offset, stop := stop }
      start := stamp, offset := t.offset + (stamp - stop), haltStamp := none
      warned := t.warned || t.warnPoint.any (fun p =>
        notBefore now (t.origin + (t.offset + (stamp - stop)) + BitVec.ofNat 32 p))
      due := notBefore now (t.origin + (t.offset + (stamp - stop)) + BitVec.ofNat 32 t.limit) } := by
  unfold Timer.resume Timer.catchUpTo Timer.warnInstant Timer.expiryInstant
  simp only [h, hh]
  cases hw : t.warnPoint <;> rfl

end Sys2Proof.Machine
end

section

open Sys2Proof Sys2Proof.Machine Sys2Proof.Safety

/-- Settles O31: the entry of the key station, whatever the frame. -/
theorem keyStationGoesToTheRoster : Obligations.KeyStationGoesToTheRoster := by
  intro s f
  obtain ⟨hcatchUp, hwatch⟩ := hearFrame_roster f s
  refine ⟨rfl, fun _ => rfl, by simp [changesOnly], hcatchUp, hwatch, hearFrame_records, hearFrame_own,
    fun x hx => ?_, fun hst => ⟨?_, fun hb ha ht => ?_, fun k hkind hk => ?_, fun k hkind hk => ?_⟩⟩
  · by_cases hst : keyStation f.key = s.straps.station
    · rw [hearFrame_own hst]
    · rw [rosterOf_hearFrame hst, if_neg (Ne.symm hx)]
  · rw [rosterOf_hearFrame hst, if_pos rfl]
  · have hd : declaredTeam f = none := by
      unfold declaredTeam
      cases hk : f.kind <;> simp_all
    rw [rosterOf_hearFrame hst, if_pos rfl, hearFrame_undeclared hd, hd]
    simp
  · have hd : declaredTeam f = some k := by
      rcases hkind with h | h <;> simp [declaredTeam, h, clampTeam_eq hk]
    rw [rosterOf_hearFrame hst, if_pos rfl, hd]
    rfl
  · have hd : declaredTeam f = some k := by simp [declaredTeam, hkind, clampTeam_eq hk]
    rw [rosterOf_hearFrame hst, if_pos rfl, hd]
    rfl

/-- Settles O35: the refusal is one lemma for the seven kinds. -/
theorem questionTestRefusesByItsTable : Obligations.QuestionTestRefusesByItsTable := by
  refine ⟨fun _ => rfl, fun s f why h hf p hp hk => ⟨refuseFrame f why (hearFrame f s), ?_, by simp [changesOnly],
    by simp⟩⟩
  simp only [List.mem_cons, List.not_mem_nil, or_false] at hp
  rcases hp with rfl | rfl | rfl | rfl | rfl | rfl | rfl <;> exact exec_questionRefused h hk hf

/-- Settles O36: the end of the question, and the two requests to its timer. -/
theorem closeHaltAndResumeTaken : Obligations.CloseHaltAndResumeTaken := by
  intro s f q h ho hn
  obtain ⟨_, -, -, hpass, -⟩ := frontTurn_facts h
  have hengine : (hearFrame f s).engine = s.engine := by simp
  have hclock : (hearFrame f s).clock = s.clock := by simp
  refine ⟨fun hk => ⟨endQuestion (hearFrame f s), ?_, endQuestion_ended _ q (by rw [hengine]; exact ho.2)⟩,
    fun hk hstate hcond => ?_, fun stop hk hstate hcond hstop => ?_⟩
  · refine exec_questionDealt (deal := fun _ _ s => endQuestion s) h hk ho ?_ ?_
    · exact questionFault_none ho hn (by simp [hk]) (by simp [hk]) (by simp [hk]) (by simp [hk])
    · simp [endQuestion, enterClosed_engine, dropQuestion_engine]
  · have hdealt : haltQuestion f q (hearFrame f s) = raise .round { hearFrame f s with
        engine := { s.engine with state := .halted }
        clock := { s.clock with timer := s.clock.timer.halt f.stamp } } := by
      simp only [haltQuestion, setEngine, setTimer, hengine, hclock]
    rw [halt_running hcond] at hdealt
    rw [← hdealt]
    refine exec_questionDealt h hk ho ?_ ?_
    · exact questionFault_none ho hn (by simp [hk]) (by simp [hk]) (fun _ => hstate) (by simp [hk])
    · simp [hdealt, hpass]
  · have hdealt : resumeQuestion f q (hearFrame f s) = raise .round { hearFrame f s with
        engine := { s.engine with state := .opened }
        clock := { s.clock with timer := s.clock.timer.resume f.stamp s.clock.now } } := by
      simp only [resumeQuestion, setEngine, setTimer, hengine, hclock]
    rw [resume_halted hcond hstop] at hdealt
    simp only
    rw [← hdealt]
    refine exec_questionDealt h hk ho ?_ ?_
    · exact questionFault_none ho hn (by simp [hk]) (by simp [hk]) (by simp [hk]) (fun _ => hstate)
    · simp [hdealt, hpass]

end

section
/-! PROOFS. SHOW and OPEN taken: what a beginning show and a beginning question make of every block (R99, R104 to R106,
R113, R153). -/

namespace Sys2Proof.Machine

open Sys2Proof.Safety

variable {s t u : State} {f : RxEntry}

/-! ### The question that is superseded (R106, R113) -/

/-- An open question ends unscored. -/
def superseded (s : State) : State := if s.engine.state.isOpen then dropQuestion s else s

theorem superseded_frame (s : State) :
    (superseded s).power = s.power ∧ (superseded s).straps = s.straps ∧ (superseded s).pending = s.pending
      ∧ (superseded s).line = s.line ∧ (superseded s).sched = s.sched ∧ (superseded s).store = s.store
      ∧ (superseded s).panel = s.panel ∧ (superseded s).score = s.score ∧ (superseded s).roster = s.roster := by
  unfold superseded
  split <;> simp

theorem superseded_engine (s : State) (hpass : s.engine.pass = none) : (superseded s).engine = { s.engine with
    lastNo := if s.engine.state.isOpen then ((s.engine.question.map (·.number)).getD s.engine.lastNo)
      else s.engine.lastNo
    question := if s.engine.state.isOpen then none else s.engine.question } := by
  unfold superseded
  split
  · simp [dropQuestion_engine, hpass]
  · rfl

theorem superseded_now (s : State) : (superseded s).clock.now = s.clock.now
    ∧ (superseded s).clock.scanned = s.clock.scanned := by
  unfold superseded
  split <;> simp [dropQuestion_clock]

/-- The queues and tables emptied at the start of a show or a question. -/
def emptied (t : State) : State := emptyPoll (emptyLockouts (emptyBuzz t))

theorem emptied_frame (t : State) :
    (emptied t).power = t.power ∧ (emptied t).straps = t.straps ∧ (emptied t).pending = t.pending
      ∧ (emptied t).line = t.line ∧ (emptied t).sched = t.sched ∧ (emptied t).store = t.store
      ∧ (emptied t).panel = t.panel ∧ (emptied t).clock = t.clock ∧ (emptied t).engine = t.engine
      ∧ (emptied t).score = t.score ∧ (emptied t).roster = t.roster := by
  simp [emptied]

theorem emptied_buzz (t : State) : (emptied t).buzz = { queue := [], lockouts := [] } := by
  simp [emptied, emptyBuzz_buzz]

theorem emptied_poll (t : State) : (emptied t).poll = { table := [], tally := Vector.replicate 4 0 } := by
  simp [emptied, emptyPoll_poll, pollStart]

/-- FLOOR for a queue that held entries, POLL for a tally that held counts. -/
def emptyingBits (s : State) : BitVec 7 :=
  (if s.buzz.queue ≠ [] then BitVec.twoPow 7 (noticeBit .floor) else 0)
    ||| if s.poll.tally ≠ Vector.replicate 4 0 then BitVec.twoPow 7 (noticeBit .poll) else 0

theorem emptied_link (t : State) : (emptied t).link = { t.link with raised := t.link.raised ||| emptyingBits t } := by
  simp [emptied, emptyPoll_link, emptyBuzz_link, emptyingBits, BitVec.or_assoc]

theorem superseded_link (s : State) : (superseded s).link = { s.link with
    raised := s.link.raised ||| if s.engine.state.isOpen then emptyingBits s else 0 } := by
  unfold superseded
  split
  · next h => simp [dropQuestion_link, emptyingBits, BitVec.or_assoc]
  · next h => simp

/-- Whether the question was open or not, each emptying is reported once. -/
theorem emptyingBits_superseded (s : State) : (if s.engine.state.isOpen then emptyingBits s else 0)
    ||| emptyingBits (superseded s) = emptyingBits s := by
  unfold superseded
  split
  · simp [emptyingBits, dropQuestion_buzz, dropQuestion_poll, pollStart]
  · simp

theorem emptyingBits_congr (hb : t.buzz = s.buzz) (hp : t.poll = s.poll) : emptyingBits t = emptyingBits s := by
  simp [emptyingBits, hb, hp]

theorem onEach_get {α : Type} {n : Nat} (g : α → α) (v : Vector α n) (i : Fin n) : (onEach g v)[i] = g v[i] := by
  simp [onEach]

/-! ### SHOW (R113, R153) -/

/-- The show's number is settled and every queue and table emptied. -/
def showCleared (f : RxEntry) (s : State) : State :=
  emptied (setEngine (fun g => { g with showNo := clampNumber (numAt f.body 0), lastNo := 0 }) (superseded s))

/-- The scores begun, the timer cleared, the round CLOSED, the entries purged and the seats' flags gone. -/
def showBegun (f : RxEntry) (s : State) : State :=
  clearSeats (showPurge (setEngine (fun g => { g with state := .closed })
    (clearTimer (beginScores (showCleared f s)))))

theorem helloOccasion_settled (h : s.store.adrift = false) : helloOccasion s = s := by
  simp [helloOccasion, h]

/-- With adrift clear, no HELLO is requested at the end of a SHOW. -/
theorem dealShow_eq (f : RxEntry) (s : State) :
    dealShow f s = raise .round (setCatchUp catchUpNone (clearAdrift (showBegun f s))) :=
  helloOccasion_settled (by simp)

theorem showCleared_frame (f : RxEntry) (s : State) :
    (showCleared f s).power = s.power ∧ (showCleared f s).straps = s.straps ∧ (showCleared f s).pending = s.pending
      ∧ (showCleared f s).line = s.line ∧ (showCleared f s).sched = s.sched ∧ (showCleared f s).store = s.store
      ∧ (showCleared f s).panel = s.panel ∧ (showCleared f s).score = s.score
      ∧ (showCleared f s).roster = s.roster := by
  simp [showCleared, emptied_frame, superseded_frame]

theorem showCleared_engine (f : RxEntry) (hpass : s.engine.pass = none) : (showCleared f s).engine = { s.engine with
    showNo := clampNumber (numAt f.body 0), lastNo := 0
    question := if s.engine.state.isOpen then none else s.engine.question } := by
  simp [showCleared, emptied_frame, superseded_engine s hpass]

theorem showCleared_link (f : RxEntry) (s : State) : (showCleared f s).link = { s.link with
    raised := s.link.raised ||| emptyingBits s } := by
  have hbits := emptyingBits_congr (s := superseded s) (t := setEngine (fun g => { g with
    showNo := clampNumber (numAt f.body 0), lastNo := 0 }) (superseded s)) rfl rfl
  rw [showCleared, emptied_link, hbits]
  simp only [setEngine_link, superseded_link, BitVec.or_assoc, emptyingBits_superseded]

theorem beginScores_score (t : State) : (beginScores t).score.totals = Vector.replicate 7 0
    ∧ (beginScores t).score.records = (t.score.records.filter fun r => decide (r.station = t.straps.station)).map
      (fun r => newRecord r.station r.seat)
    ∧ (beginScores t).score.standings = standingsOf (beginScores t)
    ∧ (beginScores t).link = { t.link with raised := t.link.raised
      ||| (if standingsOf (beginScores t) ≠ t.score.standings then BitVec.twoPow 7 (noticeBit .standings) else 0) } := by
  have hstandings := recompute_standings { t with score := { t.score with
    records := (t.score.records.filter fun r => decide (r.station = t.straps.station)).map fun r =>
      newRecord r.station r.seat
    totals := Vector.replicate 7 0 } }
  have hlist : standingsOf { t with score := { t.score with
      records := (t.score.records.filter fun r => decide (r.station = t.straps.station)).map fun r =>
        newRecord r.station r.seat
      totals := Vector.replicate 7 0 } } = standingsOf (beginScores t) := by
    rw [recompute_score] at hstandings
    exact hstandings
  refine ⟨by simp [beginScores, recompute_score], by simp [beginScores, recompute_score], hstandings, ?_⟩
  rw [← hlist, beginScores, recompute_link]

theorem showBegun_frame (f : RxEntry) (s : State) :
    (showBegun f s).power = s.power ∧ (showBegun f s).straps = s.straps ∧ (showBegun f s).pending = s.pending
      ∧ (showBegun f s).line = s.line ∧ (showBegun f s).store = s.store ∧ (showBegun f s).roster = s.roster := by
  simp [showBegun, showCleared_frame]

theorem dealShow_engine (f : RxEntry) (hpass : s.engine.pass = none) : (dealShow f s).engine = { s.engine with
    state := .closed, showNo := clampNumber (numAt f.body 0), lastNo := 0
    question := if s.engine.state.isOpen then none else s.engine.question } := by
  simp [dealShow_eq, showBegun, showCleared_engine f hpass]

theorem dealShow_clock (f : RxEntry) (s : State) : (dealShow f s).clock = { s.clock with timer := timerClear } := by
  obtain ⟨hnow, hscanned⟩ := superseded_now s
  simp [dealShow_eq, showBegun, showCleared, emptied_frame, hnow, hscanned, timerStart]

theorem dealShow_sched (f : RxEntry) (s : State) : (dealShow f s).sched = {
    queue := condemned
      (fun e => decide (e.kind = .buzz) || decide (e.kind = .answer) || decide (e.kind = .tally)) s.sched.queue
    answers := [] } := by
  simp [dealShow_eq, showBegun, showPurge_sched, showCleared_frame]

/-- A seat's flags gone, as at the start of a show or a question. -/
def unflagged (p : SeatState) : SeatState := { p with buzzed := false, chosen := none, correct := false }

theorem clearSeats_seat (s : State) (i : Seat) : (clearSeats s).panel.seats[i] = unflagged s.panel.seats[i] :=
  onEach_get unflagged s.panel.seats i

theorem dealShow_panel (f : RxEntry) (s : State) : (dealShow f s).panel.reveal = none ∧ ∀ i : Seat,
    (dealShow f s).panel.seats[i] = unflagged s.panel.seats[i] := by
  have hpanel : (dealShow f s).panel = (clearSeats s).panel := by simp [dealShow_eq, showBegun, showCleared_frame]
  rw [hpanel]
  exact ⟨rfl, clearSeats_seat s⟩

theorem dealShow_score (f : RxEntry) (s : State) : (dealShow f s).score.totals = Vector.replicate 7 0
    ∧ (dealShow f s).score.records = (s.score.records.filter fun r => decide (r.station = s.straps.station)).map
      (fun r => newRecord r.station r.seat)
    ∧ (dealShow f s).score.standings = standingsOf (dealShow f s) := by
  obtain ⟨htotals, hrecords, hstandings, -⟩ := beginScores_score (showCleared f s)
  have hscore : (dealShow f s).score = (beginScores (showCleared f s)).score := by simp [dealShow_eq, showBegun]
  have hlist : standingsOf (dealShow f s) = standingsOf (beginScores (showCleared f s)) :=
    standingsOf_congr (by rw [hscore]) (by rw [hscore]) fun st => by
      simp [rosterOf, dealShow_eq, showBegun, setCatchUp_roster]
  rw [hscore, hlist]
  refine ⟨htotals, ?_, hstandings⟩
  rw [hrecords]
  simp [showCleared_frame]

theorem dealShow_link (f : RxEntry) (s : State) : (dealShow f s).link = { s.link with
    raised := s.link.raised ||| emptyingBits s
      ||| (if standingsOf (dealShow f s) ≠ s.score.standings then BitVec.twoPow 7 (noticeBit .standings) else 0)
      ||| (if s.roster.catchUp.state ≠ .none then BitVec.twoPow 7 (noticeBit .catchUp) else 0)
      ||| BitVec.twoPow 7 (noticeBit .round) } := by
  obtain ⟨-, -, -, hlink⟩ := beginScores_score (showCleared f s)
  have hlist : standingsOf (dealShow f s) = standingsOf (beginScores (showCleared f s)) :=
    standingsOf_congr (by simp [dealShow_eq, showBegun]) (by simp [dealShow_eq, showBegun]) fun st => by
      simp [rosterOf, dealShow_eq, showBegun, setCatchUp_roster]
  have hroster := (showBegun_frame f s).2.2.2.2.2
  have hbegun : (showBegun f s).link = (beginScores (showCleared f s)).link := by simp [showBegun]
  rw [dealShow_eq, raise_link, setCatchUp_link, ← dealShow_eq, hlist]
  simp only [clearAdrift_link, clearAdrift_roster, hbegun, hlink, hroster, showCleared_link, catchUpNone,
    (showCleared_frame f s).2.2.2.2.2.2.2.1]

/-! ### OPEN (R99, R105, R106) -/

/-- The show of the OPEN is another than the known one (R105). -/
def mismatched (n : Nat) (s : State) : Bool := decide (s.engine.showNo ≠ 0 ∧ s.engine.showNo ≠ n)

theorem settleShow_match {n : Nat} (h : mismatched n s = false) :
    settleShow n s = setEngine (fun g => { g with showNo := n }) s := if_neg (of_decide_eq_false h)

theorem settleShow_mismatch {n : Nat} (h : mismatched n s = true) :
    settleShow n s = setAdrift (setEngine (fun g => { g with showNo := n }) s) := if_pos (of_decide_eq_true h)

theorem settleShow_engine (n : Nat) (s : State) : (settleShow n s).engine = { s.engine with showNo := n } := by
  cases h : mismatched n s with
  | false => simp [settleShow_match h]
  | true => simp [settleShow_mismatch h]

theorem settleShow_store (n : Nat) (s : State) :
    (settleShow n s).store = { s.store with adrift := s.store.adrift || mismatched n s } := by
  cases h : mismatched n s with
  | false => simp [settleShow_match h]
  | true => simp [settleShow_mismatch h, setAdrift_store]

theorem settleShow_roster (n : Nat) (s : State) : (settleShow n s).roster = { s.roster with
    catchUp := if mismatched n s then catchUpNone else s.roster.catchUp } := by
  cases h : mismatched n s with
  | false => simp [settleShow_match h]
  | true => simp [settleShow_mismatch h, setAdrift_roster]

theorem settleShow_link (n : Nat) (s : State) : (settleShow n s).link = { s.link with raised := s.link.raised
    ||| (if (mismatched n s && !s.store.adrift) = true then BitVec.twoPow 7 (noticeBit .health) else 0)
    ||| (if mismatched n s = true ∧ s.roster.catchUp.state ≠ .none then BitVec.twoPow 7 (noticeBit .catchUp)
      else 0) } := by
  cases h : mismatched n s with
  | false => simp [settleShow_match h]
  | true =>
    cases hadrift : s.store.adrift <;> by_cases hnone : s.roster.catchUp.state = .none <;>
      simp [settleShow_mismatch h, setAdrift_link, hnone, hadrift]

theorem abandonCatchUp_roster (s : State) : (abandonCatchUp s).roster = { s.roster with
    catchUp := if s.roster.catchUp.state = .waiting then catchUpNone else s.roster.catchUp } := by
  unfold abandonCatchUp
  split <;> simp [setCatchUp_roster]

theorem abandonCatchUp_link (s : State) : (abandonCatchUp s).link = { s.link with raised := s.link.raised
    ||| (if s.roster.catchUp.state = .waiting then BitVec.twoPow 7 (noticeBit .catchUp) else 0) } := by
  unfold abandonCatchUp
  split
  · next h => simp [setCatchUp_link, catchUpNone, h]
  · simp

theorem modeScope_eq (m : Byte) : modeScope m
    = if m.extractLsb' 5 2 = 1 then .desk else if m.extractLsb' 5 2 = 2 then .team else .seat := by
  unfold modeScope
  generalize m.extractLsb' 5 2 = c
  revert c
  decide

theorem modeChoices_eq (m : Byte) : modeChoices m = m.toNat % 8 := by
  simp [modeChoices, BitVec.extractLsb'_toNat]

theorem warnPointOf_eq (windowMs lead : Nat) :
    warnPointOf windowMs lead = if lead = 0 then none else some (windowMs - 1000 * lead) := by
  unfold warnPointOf
  split
  · rfl
  · split
    · rw [Nat.mul_comm]
    · rw [show windowMs - 1000 * lead = 0 by omega]

/-- START (R81, R82). -/
theorem begin_eq (stamp : Stamp) (windowMs lead : Nat) (now : Stamp) : Timer.begin stamp windowMs lead now = {
    cond := .running, origin := stamp, limit := windowMs, start := stamp, offset := 0, previous := none
    haltStamp := none
    warnPoint := if lead = 0 then none else some (windowMs - 1000 * lead)
    warned := decide (lead ≠ 0) && (decide (windowMs ≤ 1000 * lead)
      || notBefore now (stamp + BitVec.ofNat 32 (windowMs - 1000 * lead)))
    due := notBefore now (stamp + BitVec.ofNat 32 windowMs) } := by
  unfold Timer.begin Timer.catchUpTo Timer.warnInstant Timer.expiryInstant
  by_cases h : lead = 0
  · simp [warnPointOf_eq, h, atOrAfter, notBefore]
  · simp [warnPointOf_eq, h, atOrAfter, notBefore, Nat.pos_of_ne_zero h, Nat.mul_comm]

/-- Nothing of the superseded question or of the show before stands where the record is filled. -/
def showSettled (f : RxEntry) (s : State) : State := settleShow (clampNumber (numAt f.body 0)) (superseded s)

/-- The record filled and the timer started at the take stamp. -/
def questionStarted (f : RxEntry) (s : State) : State :=
  setTimer (Timer.begin f.stamp (questionRecord f).windowMs (questionRecord f).lead s.clock.now)
    (setEngine (fun g => { g with question := some (questionRecord f), state := .opened }) (emptied (showSettled f s)))

theorem showSettled_frame (f : RxEntry) (s : State) :
    (showSettled f s).power = s.power ∧ (showSettled f s).straps = s.straps ∧ (showSettled f s).pending = s.pending
      ∧ (showSettled f s).line = s.line ∧ (showSettled f s).sched = s.sched ∧ (showSettled f s).panel = s.panel
      ∧ (showSettled f s).score = s.score ∧ (showSettled f s).clock.now = s.clock.now
      ∧ (showSettled f s).clock.scanned = s.clock.scanned := by
  simp [showSettled, superseded_frame, superseded_now]

theorem openQuestion_eq (f : RxEntry) (s : State) : openQuestion f s = raise .round (abandonCatchUp (clearSeats
    (questionChanged (some (questionRecord f).number) (questionStarted f s)))) := by
  have hnow : (emptied (showSettled f s)).clock.now = s.clock.now := by simp [emptied_frame, showSettled_frame]
  rw [questionStarted, ← hnow]
  rfl

theorem questionStarted_frame (f : RxEntry) (s : State) :
    (questionStarted f s).power = s.power ∧ (questionStarted f s).straps = s.straps
      ∧ (questionStarted f s).pending = s.pending ∧ (questionStarted f s).line = s.line
      ∧ (questionStarted f s).sched = s.sched ∧ (questionStarted f s).panel = s.panel
      ∧ (questionStarted f s).score = s.score ∧ (questionStarted f s).store = (showSettled f s).store
      ∧ (questionStarted f s).roster = (showSettled f s).roster := by
  simp [questionStarted, emptied_frame, showSettled_frame]

theorem mismatched_superseded (n : Nat) (s : State) (hpass : s.engine.pass = none) :
    mismatched n (superseded s) = mismatched n s := by
  simp [mismatched, superseded_engine s hpass]

theorem openQuestion_engine (f : RxEntry) (hpass : s.engine.pass = none) : (openQuestion f s).engine = { s.engine with
    state := .opened, showNo := clampNumber (numAt f.body 0), pass := none
    lastNo := if s.engine.state.isOpen then ((s.engine.question.map (·.number)).getD s.engine.lastNo)
      else s.engine.lastNo
    question := some (questionRecord f) } := by
  simp [openQuestion_eq, questionStarted, emptied_frame, showSettled, settleShow_engine, superseded_engine s hpass, hpass]

theorem openQuestion_clock (f : RxEntry) (s : State) : (openQuestion f s).clock = { s.clock with
    timer := Timer.begin f.stamp (questionRecord f).windowMs (questionRecord f).lead s.clock.now } := by
  simp [openQuestion_eq, questionStarted, emptied_frame, showSettled_frame]

theorem openQuestion_panel (f : RxEntry) (s : State) : (openQuestion f s).panel.reveal = none ∧ ∀ i : Seat,
    (openQuestion f s).panel.seats[i] = unflagged s.panel.seats[i] := by
  have hpanel : (openQuestion f s).panel = (clearSeats s).panel := by simp [openQuestion_eq, questionStarted_frame]
  rw [hpanel]
  exact ⟨rfl, clearSeats_seat s⟩

theorem openQuestion_sched (f : RxEntry) (s : State) : (openQuestion f s).sched = {
    queue := condemned (fun e => decide (e.kind = .answer)
      || (decide (e.kind = .buzz) && decide (e.question ≠ clampNumber (numAt f.body 1)))) s.sched.queue
    answers := [] } := by
  simp [openQuestion_eq, questionChanged_sched, questionStarted_frame, questionRecord]

theorem openQuestion_store (f : RxEntry) (hpass : s.engine.pass = none) : (openQuestion f s).store = { s.store with
    adrift := s.store.adrift || mismatched (clampNumber (numAt f.body 0)) s } := by
  simp [openQuestion_eq, questionStarted_frame, showSettled, settleShow_store, superseded_frame,
    mismatched_superseded _ s hpass]

/-- A mismatch ends a catch-up that waits or is done, and the question one that waits (R105, R171). -/
theorem openQuestion_roster (f : RxEntry) (hpass : s.engine.pass = none) : (openQuestion f s).roster = { s.roster with
    catchUp := if mismatched (clampNumber (numAt f.body 0)) s = true ∨ s.roster.catchUp.state = .waiting
      then catchUpNone else s.roster.catchUp } := by
  simp only [openQuestion_eq, raise_roster, abandonCatchUp_roster, clearSeats_roster, questionChanged_frame,
    questionStarted_frame, showSettled, settleShow_roster, superseded_frame, mismatched_superseded _ s hpass]
  cases mismatched (clampNumber (numAt f.body 0)) s <;> simp [catchUpNone]

theorem openQuestion_link (f : RxEntry) (hpass : s.engine.pass = none) : (openQuestion f s).link = { s.link with
    raised := s.link.raised ||| emptyingBits s
      ||| (if (mismatched (clampNumber (numAt f.body 0)) s && !s.store.adrift) = true
        then BitVec.twoPow 7 (noticeBit .health) else 0)
      ||| (if s.roster.catchUp.state = .waiting
          ∨ (mismatched (clampNumber (numAt f.body 0)) s = true ∧ s.roster.catchUp.state ≠ .none)
        then BitVec.twoPow 7 (noticeBit .catchUp) else 0)
      ||| BitVec.twoPow 7 (noticeBit .round) } := by
  have hbits : emptyingBits (showSettled f s) = emptyingBits (superseded s) :=
    emptyingBits_congr (by simp [showSettled]) (by simp [showSettled])
  have hroster := (questionStarted_frame f s).2.2.2.2.2.2.2.2
  have hstarted : (questionStarted f s).link = (emptied (showSettled f s)).link := by simp [questionStarted]
  rw [openQuestion_eq, raise_link, abandonCatchUp_link]
  simp only [clearSeats_link, clearSeats_roster, questionChanged_frame, hstarted, hroster, emptied_link, hbits]
  simp only [showSettled, settleShow_link, settleShow_roster, superseded_link, superseded_frame,
    mismatched_superseded _ s hpass]
  have hsum := emptyingBits_superseded s
  generalize (if s.engine.state.isOpen then emptyingBits s else 0) = voided at *
  rw [← hsum]
  refine congrArg (fun r : BitVec 7 => { s.link with raised := r }) ?_
  cases mismatched (clampNumber (numAt f.body 0)) s with
  | false => simp; ac_rfl
  | true =>
    cases s.roster.catchUp.state <;> simp [catchUpNone] <;> ac_rfl

theorem duplicateOpen_iff : duplicateOpen f s = true ↔ s.engine.state.isOpen = true
    ∧ ∃ q, s.engine.question = some q ∧ q.number = clampNumber (numAt f.body 1) := by
  cases hq : s.engine.question <;> simp [duplicateOpen, hq]

end Sys2Proof.Machine
end

section

open Sys2Proof Sys2Proof.Machine Sys2Proof.Safety

/-- Settles O33: each block of the show begun. -/
theorem showTakenBeginsAShow : Obligations.ShowTakenBeginsAShow := by
  intro s f h hk
  obtain ⟨_, -, -, hpass, -⟩ := frontTurn_facts h
  have hheard : hearFrame f s = setPresent (keyStation f.key) s := hearFrame_undeclared (by simp [declaredTeam, hk]) s
  have hscore : (hearFrame f s).score = s.score := by simp [hheard]
  have hlink : (hearFrame f s).link = s.link := by simp [hheard]
  have hengine := dealShow_engine f (s := hearFrame f s) (by simpa using hpass)
  obtain ⟨hreveal, hseats⟩ := dealShow_panel f (hearFrame f s)
  obtain ⟨htotals, hrecords, hstandings⟩ := dealShow_score f (hearFrame f s)
  have hdealt := dealShow_link f (hearFrame f s)
  refine ⟨dealShow f (hearFrame f s), takeFront_released h hk (by simp [hengine, hpass]), ?_, ?_, ?_, ?_, ?_, ?_, ?_, ?_,
    htotals, ?_, hstandings, ?_, hreveal, fun i => ?_, ?_, ?_, ?_⟩
  · exact (held_congr (by simp [dealShow_eq, showBegun_frame])).trans h.1
  · simp [dealShow_eq, showBegun_frame]
  · simp [dealShow_eq, showBegun_frame]
  · simp [dealShow_eq, showBegun_frame]
  · rw [hengine]
    simp [clampNumber]
  · rw [dealShow_clock]
    simp
  · simp [dealShow_eq, showBegun, showCleared, emptied_buzz]
  · simp [dealShow_eq, showBegun, showCleared, emptied_poll]
  · rw [hrecords, hscore]
    simp [newRecord]
  · rw [dealShow_sched]
    simp
  · rw [hseats i, show (hearFrame f s).panel = s.panel by simp]
    rfl
  · simp [dealShow_eq, showBegun_frame]
  · simp [dealShow_eq, showBegun_frame, setCatchUp_roster, catchUpNone]
  · rw [onlyRaises, hdealt, hscore, hlink, emptyingBits_congr (s := s) (by simp) (by simp),
      (hearFrame_roster f s).1]
    generalize standingsOf (dealShow f (hearFrame f s)) = standings
    simp only [pendingOf_cons, pendingOf_nil, decide_eq_true_eq, if_true, emptyingBits, BitVec.ofNat_eq_ofNat,
      BitVec.or_zero]
    refine congrArg (fun r : BitVec 7 => { s.link with raised := r }) ?_
    ac_rfl

/-- Settles O34: refused as the question now open, or each block of the question begun. -/
theorem openTakenBeginsAQuestion : Obligations.OpenTakenBeginsAQuestion := by
  intro s f h hk
  dsimp only
  obtain ⟨_, -, -, hpass, -⟩ := frontTurn_facts h
  have hengine : (hearFrame f s).engine = s.engine := by simp
  have hpass' : (hearFrame f s).engine.pass = none := by rw [hengine, hpass]
  have hduplicate := duplicateOpen_iff (f := f) (s := hearFrame f s)
  rw [hengine, clampNumber] at hduplicate
  refine ⟨fun hdup => ?_, fun hdup => ?_⟩
  · have hdeal : dealOpen f (hearFrame f s) = refuseFrame f .again (hearFrame f s) := if_pos (hduplicate.mpr hdup)
    exact hdeal ▸ takeFront_released h hk (by rw [hdeal]; simp [refuseFrame, hpass])
  · have hdeal : dealOpen f (hearFrame f s) = openQuestion f (hearFrame f s) := if_neg (mt hduplicate.mp hdup)
    have hheard : hearFrame f s = setPresent (keyStation f.key) s :=
      hearFrame_undeclared (by simp [declaredTeam, hk]) s
    have hscore : (hearFrame f s).score = s.score := by simp [hheard]
    have hlink : (hearFrame f s).link = s.link := by simp [hheard]
    have hmismatch : mismatched (clampNumber (numAt f.body 0)) (hearFrame f s)
        = mismatched (clampNumber (numAt f.body 0)) s := by simp [mismatched]
    obtain ⟨hreveal, hseats⟩ := openQuestion_panel f (hearFrame f s)
    refine ⟨openQuestion f (hearFrame f s), hdeal ▸ takeFront_released h hk (by
        rw [hdeal, openQuestion_engine f hpass']), ?_, ?_, ?_, ?_, ?_, ?_, ?_, ?_, ?_, ?_, hreveal, fun i => ?_, ?_, ?_, ?_⟩
    · exact (held_congr (by simp)).trans h.1
    · simp
    · simp
    · simp
    · simp [hscore]
    · rw [openQuestion_engine f hpass', hengine]
      simp [questionRecord, modeScope_eq, modeChoices_eq, clampNumber, clampPoints, clampStake, clampWindow, clampLead,
        clampChoices, modeType, modeAnswer]
    · rw [openQuestion_clock, begin_eq, show (hearFrame f s).clock = s.clock by simp]
      rfl
    · simp [openQuestion_eq, questionStarted, emptied_buzz]
    · simp [openQuestion_eq, questionStarted, emptied_poll]
    · rw [openQuestion_sched, show (hearFrame f s).sched = s.sched by simp]
      rfl
    · rw [hseats i, show (hearFrame f s).panel = s.panel by simp]
      rfl
    · rw [openQuestion_store f hpass', hmismatch, show (hearFrame f s).store = s.store by simp]
      rfl
    · rw [openQuestion_roster f hpass', hmismatch, (hearFrame_roster f s).1]
      rfl
    · rw [onlyRaises, openQuestion_link f hpass', hmismatch, hlink, emptyingBits_congr (s := s) (by simp) (by simp),
        (hearFrame_roster f s).1, show (hearFrame f s).store = s.store by simp]
      rw [show mismatched (clampNumber (numAt f.body 0)) s = decide (s.engine.showNo ≠ 0
        ∧ s.engine.showNo ≠ (if numAt f.body 0 = 0 then 1 else numAt f.body 0)) from rfl]
      generalize decide (s.engine.showNo ≠ 0 ∧ s.engine.showNo ≠ (if numAt f.body 0 = 0 then 1 else numAt f.body 0)) = other
      simp only [pendingOf_cons, pendingOf_nil, decide_eq_true_eq, if_true, emptyingBits,
        BitVec.ofNat_eq_ofNat, BitVec.or_zero]
      refine congrArg (fun r : BitVec 7 => { s.link with raised := r }) ?_
      ac_rfl

end

section
/-! PROOFS. BUZZ and VERDICT taken: the tests of a BUZZ and its place in the queue, and what each verdict makes of the
floor (R120 to R128). -/

namespace Sys2Proof.Machine

open Sys2Proof.Safety

variable {s t u h : State} {f : RxEntry} {q : Question}

/-- What an accepted frame makes of the state that its key station has gone into, with its release. -/
theorem exec_questionBecomes {deal : RxEntry → Question → State → State} {k : Kind} (hs : frontTurn s f)
    (hk : f.kind = k) (ho : openQuestionIs s q) (hf : questionFault s f = none)
    (hdeal : deal f q (hearFrame f s) = t) (hpass : t.engine.pass = none) :
    event (takeFront k (withQuestion deal)) s = .next (settle (releaseFront t)) := by
  subst hdeal
  exact exec_questionDealt hs hk ho hf hpass

/-! ### The score unit given a seat, and a record scored (R152, R158) -/

theorem recordOf_congr {st : Station} {seat : Seat} (hrecords : t.score.records = s.score.records) :
    recordOf t st seat = recordOf s st seat := by
  simp [recordOf, hrecords]

theorem giveSeat_given {st : Station} {seat : Seat} (hscore : t.score = h.score) :
    seatGiven h st seat (giveSeat st seat t) := by
  have hrecord := recordOf_congr (st := st) (seat := seat) (by rw [hscore] : t.score.records = h.score.records)
  unfold seatGiven giveSeat
  rw [← hrecord, ← hscore]
  cases hold : recordOf t st seat with
  | some r => simp
  | none => exact ⟨by simp [recompute_score, ensureRecord, hold], by simp [recompute_score, ensureRecord, hold],
      by simpa using recompute_standings (s := ensureRecord st seat t)⟩

theorem giveSeat_onlyRaises (st : Station) (seat : Seat) (s : State) :
    onlyRaises [(decide ((giveSeat st seat s).score.standings ≠ s.score.standings), .standings)] s
      (giveSeat st seat s) := by
  unfold giveSeat
  cases hold : recordOf s st seat with
  | some r =>
    unfold onlyRaises
    simp
  | none =>
    have hensured : (ensureRecord st seat s).score.standings = s.score.standings
        ∧ (ensureRecord st seat s).link = s.link := by simp [ensureRecord, hold]
    have hraised := recompute_onlyRaises (s := ensureRecord st seat s)
    rwa [onlyRaises, hensured.1, hensured.2] at hraised

theorem pendingOf_append (l m : List (Bool × Notice)) : pendingOf (l ++ m) = pendingOf l ||| pendingOf m := by
  induction l with
  | nil => simp
  | cons x l ih =>
    obtain ⟨c, n⟩ := x
    simp [ih, BitVec.or_assoc]

/-- One notice after others, each raised by the step that gives occasion to it. -/
theorem onlyRaises_trans {l m : List (Bool × Notice)} (hfirst : onlyRaises l s t) (hthen : onlyRaises m t u) :
    onlyRaises (l ++ m) s u := by
  rw [onlyRaises, hthen, hfirst, pendingOf_append, BitVec.or_assoc]

theorem changeBuzz_onlyRaises (l : List BuzzEntry) (s : State) : onlyRaises [(true, .floor)] s (changeBuzz l s) := by
  unfold onlyRaises
  simp

theorem standingsOf_of_eq (hscore : t.score = s.score) (hroster : t.roster = s.roster) :
    standingsOf t = standingsOf s :=
  standingsOf_congr (by rw [hscore]) (by rw [hscore]) fun st => by simp [rosterOf, hroster]

theorem seatScored_congr {r new : SeatRecord} (hs : seatScored h r new t) (hscore : u.score = t.score)
    (hroster : u.roster = t.roster) : seatScored h r new u := by
  rw [seatScored, hscore, standingsOf_of_eq hscore hroster]
  exact hs

/-- A rewritten record and its recompute raise what the list's change gives. -/
theorem rewritten_onlyRaises (st : Station) (seat : Seat) (g : SeatRecord → SeatRecord) (s : State) :
    onlyRaises [(decide ((recompute (rewriteRecord st seat g s)).score.standings ≠ s.score.standings), .standings)] s
      (recompute (rewriteRecord st seat g s)) := by
  have hraised := recompute_onlyRaises (s := rewriteRecord st seat g s)
  have hkept : (rewriteRecord st seat g s).score.standings = s.score.standings := by
    unfold rewriteRecord
    split <;> simp [moveTotal_standings]
  rwa [onlyRaises, hkept, show (rewriteRecord st seat g s).link = s.link by simp] at hraised

/-! ### BUZZ (R120 to R123) -/

theorem queuedSeat_iff {st : Station} {seat : Seat} :
    queuedSeat s st seat = true ↔ ∃ b ∈ s.buzz.queue, b.station = st ∧ b.seat = seat := by
  simp [queuedSeat]

theorem buzzRefusal_late {b : BuzzEntry} (hlate : q.windowMs ≤ b.e) : buzzRefusal b q s = some .late := if_pos hlate

theorem buzzRefusal_again {b : BuzzEntry} (htime : b.e < q.windowMs) (hqueued : queuedSeat s b.station b.seat = true) :
    buzzRefusal b q s = some .again := by
  rw [buzzRefusal, if_neg (Nat.not_le_of_lt htime), if_pos hqueued]

theorem buzzRefusal_locked {b : BuzzEntry} (htime : b.e < q.windowMs)
    (hqueued : queuedSeat s b.station b.seat = false) (hlocked : lockedOut s b.station b.seat (some b.team) = true) :
    buzzRefusal b q s = some .locked := by
  rw [buzzRefusal, if_neg (Nat.not_le_of_lt htime), if_neg (by simp [hqueued]), if_pos hlocked]

theorem buzzRefusal_passed {b : BuzzEntry} (htime : b.e < q.windowMs)
    (hqueued : queuedSeat s b.station b.seat = false) (hlocked : lockedOut s b.station b.seat (some b.team) = false) :
    buzzRefusal b q s = none := by
  rw [buzzRefusal, if_neg (Nat.not_le_of_lt htime), if_neg (by simp [hqueued]), if_neg (by simp [hlocked])]

theorem buzzPlace_room {b : BuzzEntry} (hroom : s.buzz.queue.length < 16) :
    buzzPlace b s = some (insertBuzz b s.buzz.queue) := if_pos hroom

theorem buzzPlace_full {b last : BuzzEntry} (hfull : s.buzz.queue.length = 16)
    (hlast : s.buzz.queue.getLast? = some last) :
    buzzPlace b s = if b.key < last.key then some (insertBuzz b s.buzz.queue.dropLast) else none := by
  rw [buzzPlace, if_neg (by simp [hfull, Config.buzzPlaces])]
  simp only [hlast]

theorem dealBuzz_refused {why : Reason} (hrefusal : buzzRefusal (buzzEntry f) q s = some why) :
    dealBuzz f q s = refuseFrame f why s := by
  simp only [dealBuzz, hrefusal]

theorem dealBuzz_full (hrefusal : buzzRefusal (buzzEntry f) q s = none) (hplace : buzzPlace (buzzEntry f) s = none) :
    dealBuzz f q s = refuseFrame f .full s := by
  simp only [dealBuzz, hrefusal, hplace]

theorem dealBuzz_queued {l : List BuzzEntry} (hrefusal : buzzRefusal (buzzEntry f) q s = none)
    (hplace : buzzPlace (buzzEntry f) s = some l) :
    dealBuzz f q s = giveSeat (keyStation f.key) (keySeat f.key) (changeBuzz l s) := by
  simp only [dealBuzz, hrefusal, hplace]
  rfl

/-- The entry of a seat without one has a key of its own: a key gives its station and seat. -/
theorem queue_key_ne (hs : buzzSound s) (hqueued : queuedSeat s (keyStation f.key) (keySeat f.key) = false) :
    ∀ x ∈ s.buzz.queue, x.key ≠ f.key := by
  obtain ⟨-, -, -, hfields, -⟩ := hs
  intro x hx hkey
  obtain ⟨hst, hseat, -⟩ := hfields x hx
  exact queuedSeat_false hqueued x hx ⟨by rw [hst, hkey], by rw [hseat, hkey]⟩

/-! ### VERDICT (R124 to R128) -/

/-- A station and seat byte names a seat where its value is the seat's (R36). -/
theorem namesFloor_iff {b : Byte} {st : Station} {seat : Seat} :
    (st = upperStation b ∧ seat = lowerSeat b) ↔ b.toNat = st.val * 8 + seat.val := by
  have hseat := seat.isLt
  rw [Fin.ext_iff, Fin.ext_iff, upperStation, lowerSeat]
  simp only
  omega

theorem dealVerdict_named {b : BuzzEntry} (hfloor : s.buzz.queue.head? = some b)
    (hnamed : (byteAt f.body 1).toNat = b.station.val * 8 + b.seat.val) : dealVerdict f q s =
      if byteAt f.body 2 = 1 then verdictCorrect q b s
      else if byteAt f.body 2 = 2 then verdictWrong q b s else verdictVoid b s := by
  simp only [dealVerdict, floorOf, hfloor, if_pos (namesFloor_iff.mpr hnamed)]
  by_cases hcorrect : byteAt f.body 2 = 1
  · have houtcome : outcomeOf (byteAt f.body 2) = .correct := if_pos hcorrect
    simp only [houtcome, if_pos hcorrect]
  · by_cases hwrong : byteAt f.body 2 = 2
    · have houtcome : outcomeOf (byteAt f.body 2) = .wrong := (if_neg hcorrect).trans (if_pos hwrong)
      simp only [houtcome, if_neg hcorrect, if_pos hwrong]
    · have houtcome : outcomeOf (byteAt f.body 2) = .void := (if_neg hcorrect).trans (if_neg hwrong)
      simp only [houtcome, if_neg hcorrect, if_neg hwrong]

theorem dealVerdict_notFloor (hnamed : ∀ b, s.buzz.queue.head? = some b →
    (byteAt f.body 1).toNat ≠ b.station.val * 8 + b.seat.val) : dealVerdict f q s = refuseFrame f .notFloor s := by
  unfold dealVerdict floorOf
  cases hfloor : s.buzz.queue.head? with
  | none => rfl
  | some b => exact if_neg (mt namesFloor_iff.mp (hnamed b hfloor))

/-- The floor seat awarded and marked at its own station, the question not yet ended (R125, R159). -/
def awardedAndMarked (q : Question) (b : BuzzEntry) (s : State) : State :=
  if b.station = s.straps.station then updateSeat b.seat (fun p => { p with correct := true }) (judgeCorrect q b s)
  else judgeCorrect q b s

theorem verdictCorrect_eq (q : Question) (b : BuzzEntry) (s : State) :
    verdictCorrect q b s = endQuestion (awardedAndMarked q b s) := rfl

theorem awardedAndMarked_frame (q : Question) (b : BuzzEntry) (s : State) :
    changesOnly [.score, .panel, .link] s (awardedAndMarked q b s)
      ∧ (awardedAndMarked q b s).score = (judgeCorrect q b s).score
      ∧ (awardedAndMarked q b s).link = (judgeCorrect q b s).link := by
  unfold awardedAndMarked
  split <;> simp [changesOnly]

theorem awardedAndMarked_panel (q : Question) (b : BuzzEntry) (s : State) : (awardedAndMarked q b s).panel
    = if b.station = s.straps.station then
        { s.panel with seats := putAt s.panel.seats b.seat { s.panel.seats[b.seat] with correct := true } }
      else s.panel := by
  have hpanel : (judgeCorrect q b s).panel = s.panel := by simp
  unfold awardedAndMarked
  split
  · rw [updateSeat_panel, hpanel]
  · exact hpanel

theorem verdictVoid_panel (b : BuzzEntry) (s : State) : (verdictVoid b s).panel
    = if b.station = s.straps.station then
        { s.panel with seats := putAt s.panel.seats b.seat { s.panel.seats[b.seat] with buzzed := false } }
      else s.panel := by
  unfold verdictVoid
  split
  · rw [updateSeat_panel, changeBuzz_panel]
  · exact changeBuzz_panel ..

theorem verdictVoid_changes (b : BuzzEntry) (s : State) : changesOnly [.panel, .buzz, .link] s (verdictVoid b s)
    ∧ (verdictVoid b s).link = (changeBuzz s.buzz.queue.tail s).link := by
  simp only [verdictVoid]
  split <;> simp [changesOnly]

end Sys2Proof.Machine
end

section

open Sys2Proof Sys2Proof.Machine Sys2Proof.Safety

/-- Settles O37: the lockout set, the records, and the tests of a BUZZ in their order. -/
theorem buzzTakenQueuesOrRefuses : Obligations.BuzzTakenQueuesOrRefuses := by
  refine ⟨fun s st seat team => ⟨List.any_eq_true, by simp [belongs], by simp [belongs], by simp [belongs]⟩,
    fun r k => (teamOf_eq_some _ k).trans (by simp), fun st seat l hl hnew => ⟨rfl, insertRecord_perm _ l,
      insertRecord_ordered hl hnew⟩, fun s f q team h hk ho htype hn hsound hteam => ?_⟩
  obtain ⟨_, -, -, hpass, -⟩ := frontTurn_facts h
  have hfault := questionFault_none ho hn (fun _ => htype) (by simp [hk]) (by simp [hk]) (by simp [hk])
  have hbuzz : (hearFrame f s).buzz = s.buzz := by simp
  have hqueued : ∀ st seat, queuedSeat (hearFrame f s) st seat = queuedSeat s st seat := by simp [queuedSeat]
  have hlocked : ∀ st seat team, lockedOut (hearFrame f s) st seat team = lockedOut s st seat team := by
    simp [lockedOut]
  have hentry : buzzEntry f = { station := keyStation f.key, seat := keySeat f.key, team := team, e := keyOrder f.key
                                key := f.key } := by
    rw [buzzEntry, clampTeam_eq hteam]
  have hrefused : ∀ why, dealBuzz f q (hearFrame f s) = refuseFrame f why (hearFrame f s) →
      exec .buzzTaken s = .next (settle (releaseFront (refuseFrame f why (hearFrame f s)))) := fun why hdeal =>
    exec_questionBecomes h hk ho hfault hdeal (by simp [hpass])
  refine ⟨fun hlate => hrefused _ (dealBuzz_refused (buzzRefusal_late hlate)), fun htime hin => hrefused _ ?_,
    fun htime hnot hlockedOut => hrefused _ ?_, fun htime hnot hfree => ?_⟩
  · exact dealBuzz_refused (buzzRefusal_again htime ((hqueued _ _).trans (queuedSeat_iff.mpr hin)))
  · refine dealBuzz_refused (buzzRefusal_locked htime ((hqueued _ _).trans ?_) ((hlocked _ _ _).trans ?_))
    · exact Bool.eq_false_iff.mpr (mt queuedSeat_iff.mp hnot)
    · rw [hentry]
      exact hlockedOut
  · have hnotQueued : queuedSeat s (keyStation f.key) (keySeat f.key) = false :=
      Bool.eq_false_iff.mpr (mt queuedSeat_iff.mp hnot)
    have hpassed : buzzRefusal (buzzEntry f) q (hearFrame f s) = none :=
      buzzRefusal_passed htime ((hqueued _ _).trans hnotQueued) (by rw [hlocked, hentry]; exact hfree)
    obtain ⟨-, hkeys, -⟩ := id hsound
    have htakes : ∀ stays : List BuzzEntry, stays.Sublist s.buzz.queue →
        buzzPlace (buzzEntry f) (hearFrame f s) = some (insertBuzz (buzzEntry f) stays) →
        ∃ u, exec .buzzTaken s = .next (settle (releaseFront u))
          ∧ changesOnly [.buzz, .score, .link] (hearFrame f s) u ∧ u.buzz.lockouts = s.buzz.lockouts
          ∧ u.buzz.queue.Perm (buzzEntry f :: stays) ∧ u.buzz.queue.Pairwise (fun a b => a.key < b.key)
          ∧ seatGiven (hearFrame f s) (keyStation f.key) (keySeat f.key) u
          ∧ onlyRaises [(true, .floor), (decide (u.score.standings ≠ (hearFrame f s).score.standings), .standings)]
            (hearFrame f s) u := fun stays hsub hplace => by
      have hdeal := dealBuzz_queued hpassed hplace
      refine ⟨giveSeat (keyStation f.key) (keySeat f.key) (changeBuzz (insertBuzz (buzzEntry f) stays) (hearFrame f s)),
        exec_questionBecomes h hk ho hfault hdeal (by simp [hpass]), by simp [changesOnly], by simp, ?_, ?_,
        giveSeat_given rfl, ?_⟩
      · simpa using insertBuzz_perm (buzzEntry f) stays
      · simpa using insertBuzz_ascending (b := buzzEntry f) (hkeys.sublist hsub) fun x hx =>
          queue_key_ne hsound hnotQueued x (hsub.subset hx)
      · exact onlyRaises_trans (changeBuzz_onlyRaises _ _) (giveSeat_onlyRaises _ _ _)
    rw [hentry] at htakes
    refine ⟨fun hroom => htakes _ (.refl _) ?_, fun last hfull hlast hafter => hrefused _ (dealBuzz_full hpassed ?_),
      fun last hfull hlast hbefore => htakes _ (List.dropLast_sublist _) ?_⟩
    · rw [← hbuzz] at hroom ⊢
      exact buzzPlace_room hroom
    · rw [← hbuzz] at hfull hlast
      rw [buzzPlace_full hfull hlast, if_neg]
      exact fun hbefore => BitVec.lt_asymm hafter hbefore
    · rw [← hbuzz] at hfull hlast ⊢
      rw [buzzPlace_full hfull hlast, if_pos hbefore]

/-- Settles O38: the award and the mark, then the end of the question. -/
theorem verdictCorrectAwardsAndEnds : Obligations.VerdictCorrectAwardsAndEnds := by
  intro s f q b r h hk ho htype hn hfloor hnamed hcorrect hordered hrecord
  have hfault := questionFault_none ho hn (fun _ => htype) (by simp [hk]) (by simp [hk]) (by simp [hk])
  have hdeal : dealVerdict f q (hearFrame f s) = verdictCorrect q b (hearFrame f s) := by
    rw [dealVerdict_named (by simpa using hfloor) hnamed, if_pos hcorrect]
  obtain ⟨hframe, hscore, hlink⟩ := awardedAndMarked_frame q b (hearFrame f s)
  obtain ⟨-, -, -, -, -, -, -, -, hengine, -, -, -, hroster, -⟩ := id hframe
  have hquestion : (awardedAndMarked q b (hearFrame f s)).engine.question = some q := by
    rw [hengine (by decide)]
    simpa using ho.2
  have hended := endQuestion_ended _ q hquestion
  have hscored : seatScored (hearFrame f s) r (awardRecord q b.e r) (awardedAndMarked q b (hearFrame f s)) := by
    refine seatScored_congr (rewriteRecord_scored (s := hearFrame f s) (awardRecord q b.e) ?_ ?_) hscore ?_
    · rwa [hearFrame_records]
    · rw [recordOf_congr hearFrame_records, hrecord]
    · rw [hroster (by decide)]
      simp
  refine ⟨_, verdictCorrect q b (hearFrame f s), exec_questionBecomes h hk ho hfault hdeal ?_, hframe, hscored, ?_, ?_,
    hended⟩
  · obtain ⟨-, hpass, -⟩ := hended
    rw [verdictCorrect_eq, hpass]
  · rw [awardedAndMarked_panel]
    simp
  · have hraised := rewritten_onlyRaises b.station b.seat (awardRecord q b.e) (hearFrame f s)
    obtain ⟨-, -, hstandings⟩ := hscored
    rw [onlyRaises, ← hstandings, hlink, hscore]
    exact hraised

/-- Settles O39: WRONG, VOID, and a VERDICT that does not name the floor. -/
theorem verdictWrongVoidAndNotFloor : Obligations.VerdictWrongVoidAndNotFloor := by
  intro s f q h hk ho htype hn
  obtain ⟨_, -, -, hpass, -⟩ := frontTurn_facts h
  have hfault := questionFault_none ho hn (fun _ => htype) (by simp [hk]) (by simp [hk]) (by simp [hk])
  have hbuzz : (hearFrame f s).buzz = s.buzz := by simp
  have hpanel : (hearFrame f s).panel = s.panel := by simp
  have hsched : (hearFrame f s).sched = s.sched := by simp
  have hstraps : (hearFrame f s).straps = s.straps := by simp
  refine ⟨fun b r hfloor hnamed hwrong hordered hrecord => ?_, fun b hfloor hnamed hother hother2 => ?_,
    fun hnamed => ?_⟩
  · have hdeal : dealVerdict f q (hearFrame f s) = verdictWrong q b (hearFrame f s) := by
      rw [dealVerdict_named (by simpa using hfloor) hnamed, if_neg (by simp [hwrong]), if_pos hwrong]
    intro unit
    have hunit : unit = unitOf q.scope b := by
      dsimp only [unit]
      cases q.scope <;> rfl
    clear_value unit
    subst hunit
    have hscored : seatScored (hearFrame f s) r (penaliseRecord q r) (verdictWrong q b (hearFrame f s)) := by
      refine seatScored_congr (rewriteRecord_scored (s := hearFrame f s) (penaliseRecord q)
        (by rwa [hearFrame_records]) ((recordOf_congr hearFrame_records).trans hrecord))
        (by simp [verdictWrong, judgeWrong]) (by simp [verdictWrong])
    refine ⟨_, exec_questionBecomes h hk ho hfault hdeal (by simp [verdictWrong, hpass]),
      by simp [changesOnly, verdictWrong], ?_, ?_, ?_, ?_⟩
    · exact hscored
    · rw [verdictWrong_buzz, hbuzz, addLockout, hbuzz]
    · rw [verdictWrong, wrongPurge_sched]
      simp
    · have hraised := rewritten_onlyRaises b.station b.seat (penaliseRecord q) (hearFrame f s)
      obtain ⟨-, -, hstandings⟩ := hscored
      rw [onlyRaises, ← hstandings]
      simp only [onlyRaises] at hraised
      simp [verdictWrong, judgeWrong, hraised]
      ac_rfl
  · have hdeal : dealVerdict f q (hearFrame f s) = verdictVoid b (hearFrame f s) := by
      rw [dealVerdict_named (by simpa using hfloor) hnamed, if_neg hother, if_neg hother2]
    obtain ⟨hframe, hlink⟩ := verdictVoid_changes b (hearFrame f s)
    obtain ⟨-, -, -, -, -, -, -, -, hengine, -⟩ := id hframe
    refine ⟨_, exec_questionBecomes h hk ho hfault hdeal ?_, hframe, ?_, ?_, ?_⟩
    · rw [hengine (by decide)]
      simpa using hpass
    · rw [verdictVoid_buzz, hbuzz]
    · rw [verdictVoid_panel, hpanel, hstraps]
    · rw [onlyRaises, hlink]
      exact changeBuzz_onlyRaises _ _
  · have hdeal : dealVerdict f q (hearFrame f s) = refuseFrame f .notFloor (hearFrame f s) :=
      dealVerdict_notFloor (by rwa [hbuzz])
    exact exec_questionBecomes h hk ho hfault hdeal (by simp [hpass])

end

section
/-! PROOFS. ANSWER and REVEAL taken, the score pass, and the standings (R136 to R145, R161 to R165). -/

namespace Sys2Proof.Machine

open Sys2Proof.Safety

variable {s t u : State} {f : RxEntry} {q : Question} {st : Station} {a : AnswerEntry}

/-! ### The entries of an ANSWER (R140, R141) -/

/-- The record that an entry of an ANSWER makes of a seat (R140, R141). -/
def answerRecord (st : Station) (a : AnswerEntry) : PollRecord :=
  { station := st, seat := a.seat, choice := a.choice, e := a.e }

theorem judgeAnswer_ignored (h : q.choices ≤ a.choice.val ∨ q.windowMs ≤ a.e) : judgeAnswer st q s a = s := if_pos h

theorem judgeAnswer_created (hchoice : a.choice.val < q.choices) (htime : a.e < q.windowMs)
    (hnew : pollOf s st a.seat = none) : judgeAnswer st q s a = createPoll (answerRecord st a) s := by
  rw [judgeAnswer]
  simp only [hnew]
  exact if_neg (by omega)

theorem judgeAnswer_known {old : PollRecord} (hchoice : a.choice.val < q.choices) (htime : a.e < q.windowMs)
    (hold : pollOf s st a.seat = some old) : judgeAnswer st q s a
      = if q.mode = .last ∧ old.e < a.e then replacePoll old (answerRecord st a) s else s := by
  rw [judgeAnswer]
  simp only [hold]
  exact if_neg (by omega)

/-- The place of a record in an ordered table is that of its seat. -/
theorem replacePoll_table {old : PollRecord} (hordered : pollOrdered s.poll.table)
    (hold : pollOf s st a.seat = some old) : (replacePoll old (answerRecord st a) s).poll.table
      = s.poll.table.map fun x => if x = old then answerRecord st a else x := by
  obtain ⟨hst, hseat, front, back, htable, hfront, hback⟩ := pollOf_split hordered hold
  have hother : ∀ x, ¬(x.station = st ∧ x.seat = a.seat) → x ≠ old := fun x hx heq => hx (heq ▸ ⟨hst, hseat⟩)
  refine List.map_congr_left fun x hx => ?_
  rw [htable] at hx
  rcases List.mem_append.mp hx with hx | hx
  · exact (if_neg (hfront x hx)).trans (if_neg (hother x (hfront x hx))).symm
  · rcases List.mem_cons.mp hx with rfl | hx
    · exact (if_pos ⟨hst, hseat⟩).trans (if_pos rfl).symm
    · exact (if_neg (hback x hx)).trans (if_neg (hother x (hback x hx))).symm

/-- A count moves from the choice replaced to the new one. -/
theorem replacePoll_tally {old : PollRecord} (hs : tallyAgrees s) (hold : pollOf s st a.seat = some old) (c : Choice) :
    (replacePoll old (answerRecord st a) s).poll.tally[c] + (if c = old.choice then 1 else 0)
      = s.poll.tally[c] + if c = a.choice then 1 else 0 := by
  obtain ⟨-, hcounts⟩ := hs
  have hcounted : 0 < s.poll.tally[old.choice] := by
    rw [hcounts, List.countP_pos_iff]
    exact ⟨old, List.mem_of_find?_eq_some hold, by simp⟩
  by_cases hsame : old.choice = a.choice
  · have htally : (replacePoll old (answerRecord st a) s).poll.tally = s.poll.tally := if_pos hsame
    rw [htally, hsame]
  · have htally : (replacePoll old (answerRecord st a) s).poll.tally
      = countChoice a.choice true (countChoice old.choice false s.poll.tally) := if_neg hsame
    rw [htally, countChoice_get, countChoice_get]
    by_cases hnew : c = a.choice
    · subst hnew
      simp [Ne.symm hsame]
    · by_cases hwas : c = old.choice
      · subst hwas
        simp [hnew]
        exact Nat.sub_add_cancel hcounted
      · simp [hnew, hwas]

/-! ### REVEAL (R33, R144) -/

/-- The reduced set holds the choices below n whose bit stands (R33). -/
theorem inSet_reduceSet (b : Byte) (n : Nat) (c : Choice) :
    inSet (reduceSet b n) c = (decide (c.val < n) && b.getLsbD c.val) := by
  have hc := c.isLt
  simp only [inSet, reduceSet, BitVec.getLsbD_and, BitVec.getLsbD_extractLsb', BitVec.getLsbD_ofNat,
    Nat.testBit_two_pow_sub_one, hc, decide_true, Bool.true_and, Nat.zero_add]
  exact Bool.and_comm ..

theorem choiceSet_ext {x y : ChoiceSet} (h : ∀ c : Choice, inSet x c = inSet y c) : x = y :=
  BitVec.eq_of_getLsbD_eq fun i hi => h ⟨i, hi⟩

/-! ### The score pass (R161) -/

/-- In an ordered table a record is the one found for its seat. -/
theorem recordOf_mem {r : SeatRecord} (hordered : recordsOrdered s.score.records) (hr : r ∈ s.score.records) :
    recordOf s r.station r.seat = some r := by
  cases hfound : recordOf s r.station r.seat with
  | none => exact absurd ⟨rfl, rfl⟩ (recordOf_none hfound r hr)
  | some x =>
    obtain ⟨hx, hst, hseat⟩ := recordOf_some s hfound
    rw [ordered_unique hordered hx hr hst hseat]

/-- A record between those before it and those after it is rewritten in its place. -/
theorem rewriteRecord_at {g : SeatRecord → SeatRecord} {front back : List SeatRecord} {r : SeatRecord}
    (hordered : recordsOrdered s.score.records) (hrecords : s.score.records = front ++ r :: back) :
    (rewriteRecord r.station r.seat g s).score.records = front ++ g r :: back := by
  rw [hrecords] at hordered
  obtain ⟨-, hback, hbefore⟩ := List.pairwise_append.mp hordered
  have hfrontOther : ∀ x ∈ front, ¬(x.station = r.station ∧ x.seat = r.seat) := fun x hx => by
    have hlt := hbefore x hx r (by simp)
    rw [seatOrder_iff] at hlt
    rw [seatSame_iff]
    omega
  have hbackOther : ∀ x ∈ back, ¬(x.station = r.station ∧ x.seat = r.seat) := fun x hx => by
    have hlt := (List.pairwise_cons.mp hback).1 x hx
    rw [seatOrder_iff] at hlt
    rw [seatSame_iff]
    omega
  have hkeep : ∀ l : List SeatRecord, (∀ x ∈ l, ¬(x.station = r.station ∧ x.seat = r.seat)) →
      l.map (fun x => if x.station = r.station ∧ x.seat = r.seat then g x else x) = l := fun l hl =>
    (List.map_congr_left fun x hx => if_neg (hl x hx)).trans (List.map_id' l)
  simp [rewriteRecord_records, hrecords, hkeep front hfrontOther, hkeep back hbackOther]

/-- The team totals move with each record as the pass comes to it. -/
theorem foldl_rewriteRecord {g : SeatRecord → SeatRecord}
    (hg : ∀ r, (g r).station = r.station ∧ (g r).seat = r.seat) (l : List SeatRecord) : ∀ (front : List SeatRecord)
    (t : State), recordsOrdered t.score.records → t.score.records = front ++ l →
      (l.foldl (fun t r => rewriteRecord r.station r.seat g t) t).score.records = front ++ l.map g
      ∧ ∀ k : Team, (l.foldl (fun t r => rewriteRecord r.station r.seat g t) t).score.totals[k] = t.score.totals[k]
        + ((l.filter fun r => decide (attachedTeam t r.station = some k)).map fun r => (g r).total - r.total).sum := by
  induction l with
  | nil => intro front t _ hrecords; simp [hrecords]
  | cons r l ih =>
    intro front t hordered hrecords
    have hfound := recordOf_mem hordered (r := r) (by simp [hrecords])
    have hrewritten := rewriteRecord_at (g := g) hordered hrecords
    have hattached : ∀ x, attachedTeam (rewriteRecord r.station r.seat g t) x = attachedTeam t x := by
      simp [attachedTeam, rosterOf]
    have hstillOrdered : recordsOrdered (rewriteRecord r.station r.seat g t).score.records := by
      rw [rewriteRecord_records]
      exact map_ordered (fun x => by split <;> simp [hg]) hordered
    obtain ⟨hrest, hsums⟩ := ih (front ++ [g r]) _ hstillOrdered (by simp [hrewritten])
    refine ⟨by simp [hrest], fun k => ?_⟩
    rw [List.foldl_cons, hsums k, rewriteRecord_totals g hfound]
    simp only [hattached, List.filter_cons, decide_eq_true_eq]
    split
    · rw [List.map_cons, List.sum_cons, Int.add_assoc]
    · rw [Int.add_zero]

theorem sweep_records (set : ChoiceSet) (hordered : recordsOrdered s.score.records) :
    (sweep q set s).score.records = s.score.records.map (passRecord q set s) :=
  (foldl_rewriteRecord (passRecord_place set s) _ [] s hordered rfl).1

theorem sweep_totals (set : ChoiceSet) (hordered : recordsOrdered s.score.records) (k : Team) :
    (sweep q set s).score.totals[k] = s.score.totals[k]
      + ((s.score.records.filter fun r => decide (attachedTeam s r.station = some k)).map
        fun r => (passRecord q set s r).total - r.total).sum :=
  (foldl_rewriteRecord (passRecord_place set s) _ [] s hordered rfl).2 k

theorem sweep_standings (set : ChoiceSet) (s : State) : (sweep q set s).score.standings = s.score.standings :=
  foldl_keeps (fun t : State => t.score.standings) _ (fun r t => by
    unfold rewriteRecord
    split <;> simp [moveTotal_standings]) _ _

/-- The pass over every record, the list recomputed, and the question ended, the REVEAL not yet released (R162). -/
def passEnded (q : Question) (set : ChoiceSet) (s : State) : State :=
  enterClosed (dropQuestion (recompute (sweep q set s)))

theorem passEnded_score (set : ChoiceSet) (s : State) :
    (passEnded q set s).score = (recompute (sweep q set s)).score := by
  simp [passEnded]

theorem passEnded_standings (set : ChoiceSet) (s : State) :
    (passEnded q set s).score.standings = standingsOf (passEnded q set s)
      ∧ standingsOf (passEnded q set s) = standingsOf (sweep q set s) := by
  have hlist : standingsOf (passEnded q set s) = standingsOf (sweep q set s) :=
    standingsOf_congr (by rw [passEnded_score, recompute_score]) (by rw [passEnded_score, recompute_score]) fun st => by
      simp [rosterOf, passEnded]
  exact ⟨by rw [hlist, passEnded_score, recompute_score], hlist⟩

/-! ### The standings (R164) -/

/-- The order of the list: highest total first, equal totals in ascending team number. -/
def ranksBefore (x y : Team × Int) : Prop := y.2 < x.2 ∨ (x.2 = y.2 ∧ x.1 < y.1)

theorem ranksBefore_trans {x y z : Team × Int} (hxy : ranksBefore x y) (hyz : ranksBefore y z) : ranksBefore x z := by
  rcases hxy with hxy | ⟨hxy, hteam⟩ <;>
    rcases hyz with hyz | ⟨hyz, hteam'⟩
  · exact .inl (hyz.trans hxy)
  · exact .inl (hyz ▸ hxy)
  · exact .inl (hxy ▸ hyz)
  · exact .inr ⟨hxy.trans hyz, hteam.trans hteam'⟩

theorem insertStanding_perm (x : Team × Int) (l : List (Team × Int)) : (insertStanding x l).Perm (x :: l) := by
  induction l with
  | nil => exact .refl _
  | cons h t ih =>
    unfold insertStanding
    split
    · exact .refl _
    · exact (ih.cons h).trans (.swap x h t)

theorem insertStanding_ordered {x : Team × Int} {l : List (Team × Int)} (hl : l.Pairwise ranksBefore)
    (hnew : ∀ y ∈ l, y.1 ≠ x.1) : (insertStanding x l).Pairwise ranksBefore := by
  induction l with
  | nil => simp [insertStanding]
  | cons h t ih =>
    obtain ⟨hfirst, hrest⟩ := List.pairwise_cons.mp hl
    unfold insertStanding
    split
    · next hlt =>
      have hxh : ranksBefore x h := hlt.imp id fun hequal => ⟨hequal.1.symm, hequal.2⟩
      refine List.pairwise_cons.mpr ⟨fun y hy => ?_, hl⟩
      rcases List.mem_cons.mp hy with rfl | hy
      · exact hxh
      · exact ranksBefore_trans hxh (hfirst y hy)
    · next hge =>
      have hhx : ranksBefore h x := by
        obtain ⟨hnotHigher, hnotEqual⟩ := not_or.mp hge
        rcases lt_or_eq_of_le (Int.not_lt.mp hnotHigher) with hlower | hequal
        · exact .inl hlower
        · exact .inr ⟨hequal.symm, lt_of_le_of_ne (le_of_not_gt fun hteam => hnotEqual ⟨hequal.symm, hteam⟩)
            (hnew h (by simp))⟩
      refine List.pairwise_cons.mpr ⟨fun y hy => ?_, ih hrest fun y hy => hnew y (by simp [hy])⟩
      rcases List.mem_cons.mp ((insertStanding_perm x t).mem_iff.mp hy) with rfl | hy
      · exact hhx
      · exact hfirst y hy

/-- The teams listed with their totals, in the order of the list. -/
def rankedTeams (s : State) : List (Team × Int) :=
  (((List.finRange 7).filter (teamListed s)).map fun t => (t, s.score.totals[t])).foldr insertStanding []

theorem foldr_insertStanding (l : List (Team × Int)) (hteams : l.Pairwise fun x y => x.1 ≠ y.1) :
    (l.foldr insertStanding []).Perm l ∧ (l.foldr insertStanding []).Pairwise ranksBefore := by
  induction l with
  | nil => simp
  | cons x l ih =>
    obtain ⟨hother, hrest⟩ := List.pairwise_cons.mp hteams
    obtain ⟨hperm, hordered⟩ := ih hrest
    refine ⟨(insertStanding_perm x _).trans (hperm.cons x), insertStanding_ordered hordered fun y hy => ?_⟩
    exact (hother y (hperm.mem_iff.mp hy)).symm

theorem rankedTeams_perm (s : State) : (rankedTeams s).Perm
    (((List.finRange 7).filter (teamListed s)).map fun t => (t, s.score.totals[t]))
    ∧ (rankedTeams s).Pairwise ranksBefore := by
  refine foldr_insertStanding _ (List.pairwise_map.mpr ?_)
  exact ((List.nodup_finRange 7).filter _).imp fun hne => hne

theorem standingsOf_eq (s : State) : standingsOf s = (rankedTeams s).map fun x =>
    { team := x.1, total := x.2, rank := 1 + ((rankedTeams s).filter fun y => decide (x.2 < y.2)).length } := rfl

theorem mem_rankedTeams {x : Team × Int} :
    x ∈ rankedTeams s ↔ teamListed s x.1 = true ∧ x.2 = s.score.totals[x.1] := by
  rw [(rankedTeams_perm s).1.mem_iff]
  constructor
  · intro hx
    obtain ⟨k, hk, rfl⟩ := List.mem_map.mp hx
    exact ⟨(List.mem_filter.mp hk).2, rfl⟩
  · intro ⟨hlisted, htotal⟩
    exact List.mem_map.mpr ⟨x.1, List.mem_filter.mpr ⟨List.mem_finRange _, hlisted⟩, by rw [← htotal]⟩

theorem rankedTeams_length (s : State) : (rankedTeams s).length ≤ 7 := by
  rw [(rankedTeams_perm s).1.length_eq, List.length_map]
  exact (List.length_filter_le _ _).trans (by simp)

theorem teamListed_iff {k : Team} :
    teamListed s k = true ↔ ∃ r ∈ s.score.records, attachedTeam s r.station = some k := by
  simp [teamListed]

end Sys2Proof.Machine
end

section

open Sys2Proof Sys2Proof.Machine Sys2Proof.Safety

/-- Settles O40: the entries in their order, and one entry by the record it meets. -/
theorem answerEntriesAreJudgedByRecordAndMode : Obligations.AnswerEntriesAreJudgedByRecordAndMode := by
  refine ⟨⟨fun s f q h hk ho htype hn => ?_, rfl, fun a b c rest => ⟨_, rfl, rfl, rfl, rfl⟩⟩, fun s st q a => ⟨
    judgeAnswer_ignored, fun hchoice htime hnew hordered => ?_, fun old hchoice htime hold => ⟨fun hmode => ?_,
      fun hmode hearlier => ?_, fun hmode hlater hs => ?_⟩⟩⟩
  · obtain ⟨_, -, -, hpass, -⟩ := frontTurn_facts h
    have hfault := questionFault_none ho hn (by simp [hk]) (fun _ => htype) (by simp [hk]) (by simp [hk])
    refine ⟨_, dealAnswer f q (hearFrame f s), exec_questionBecomes h hk ho hfault rfl (by simp [hpass]), ?_, rfl, ?_⟩
    · simp [changesOnly, dealAnswer]
    · simp [onlyRaises, dealAnswer, raiseIf_link]
  · rw [judgeAnswer_created hchoice htime hnew]
    refine ⟨by simp [changesOnly, createPoll], ?_, ?_, fun c => ?_, giveSeat_given rfl, giveSeat_onlyRaises _ _ _⟩
    · simpa [createPoll, answerRecord] using insertPoll_perm (answerRecord st a) s.poll.table
    · simpa [createPoll] using insertPoll_ordered (r := answerRecord st a) hordered (pollOf_none hnew)
    · rw [show (createPoll (answerRecord st a) s).poll.tally = countChoice a.choice true s.poll.tally by
        simp [createPoll, answerRecord], countChoice_get]
      split <;> simp
  · rw [judgeAnswer_known hchoice htime hold, if_neg (by simp [hmode])]
  · rw [judgeAnswer_known hchoice htime hold, if_neg (by omega)]
  · rw [judgeAnswer_known hchoice htime hold, if_pos ⟨hmode, hlater⟩]
    exact ⟨by simp [changesOnly, replacePoll], replacePoll_table hs.1 hold, replacePoll_tally hs hold⟩

/-- Settles O41: the pass begun on a set that is not empty, or the end of the question. -/
theorem revealTakenBeginsThePassOrVoids : Obligations.RevealTakenBeginsThePassOrVoids := by
  intro s f q set h hk ho htype hn hset
  have hfault := questionFault_none ho hn (by simp [hk]) (fun _ => htype) (by simp [hk]) (by simp [hk])
  have hreduced : reduceSet (byteAt f.body 1) q.choices = set :=
    choiceSet_ext fun c => (inSet_reduceSet _ _ c).trans (hset c).symm
  have hengine : (hearFrame f s).engine = s.engine := by simp
  refine ⟨fun hsome => ?_, fun hempty => ?_⟩
  · have hdeal : withQuestion dealReveal f (hearFrame f s) = beginPass f set (hearFrame f s) := by
      rw [withQuestion_dealt (by simpa [openQuestionIs] using ho) (questionFault_hearFrame.trans hfault)]
      simp only [dealReveal, hreduced, if_neg hsome]
    have hturn := takeFront_turn (deal := withQuestion dealReveal) h hk
    rw [hdeal, if_pos (by simp [beginPass])] at hturn
    refine ⟨_, hturn, by simp [changesOnly, beginPass], by simp [beginPass], by simp [beginPass], ?_, fun hcond => ?_,
      fun hcond => ?_, fun hcond => ?_, by simp [onlyRaises, beginPass]⟩
    · simp [beginPass, questionChanged_sched, Bool.or_comm]
    all_goals simp [beginPass, Timer.stop, hcond, Timer.expiryInstant]
  · have hdeal : dealReveal f q (hearFrame f s) = endQuestion (hearFrame f s) := by
      simp only [dealReveal, hreduced, if_pos hempty]
    have hended := endQuestion_ended (hearFrame f s) q (by rw [hengine]; exact ho.2)
    obtain ⟨-, hclosed, -⟩ := id hended
    exact ⟨_, exec_questionBecomes h hk ho hfault hdeal (by rw [hclosed]), hended⟩

/-- Settles O42: the sweep of every record, one recompute, and the end of the question. -/
theorem scorePassScoresEveryRecordAtOnce : Obligations.ScorePassScoresEveryRecordAtOnce := by
  intro s q set hheld hstate hquestion hpass hordered row
  have hrow : passRecord q set s = row := funext fun r => by
    unfold passRecord
    simp only [row]
    cases pollOf s r.station r.seat <;> rfl
  clear_value row
  subst hrow
  obtain ⟨hstandings, hlist⟩ := passEnded_standings (q := q) set s
  refine ⟨passEnded q set s, ?_, by simp [changesOnly, passEnded], ?_, fun k => ?_, hstandings, ?_, ?_, ?_, ?_, ?_, ?_⟩
  · refine event_next hheld (effect := passCompleteEffect) ?_
    simp only [passCompleteEffect, hpass, hquestion]
    exact occasion_eq_some.mpr ⟨by simp [hstate], rfl⟩
  · rw [passEnded_score, recompute_score]
    exact sweep_records set hordered
  · rw [passEnded_score, recompute_score]
    exact sweep_totals set hordered k
  · simp [passEnded, enterClosed_engine, dropQuestion_engine, hquestion]
  · simp [passEnded, dropQuestion_buzz]
  · simp [passEnded, dropQuestion_poll, pollStart]
  · simp [passEnded, dropQuestion_clock, timerStart]
  · simp [passEnded, enterClosed_sched]
  · have hlink := recompute_link (s := sweep q set s)
    rw [onlyRaises, hlist]
    simp only [passEnded, enterClosed_link, dropQuestion_link, hlink, sweep_frame, sweep_standings, recompute_frame,
      pendingOf_cons, pendingOf_nil, decide_eq_true_eq, if_true, BitVec.ofNat_eq_ofNat, BitVec.or_zero]
    refine congrArg (fun r : BitVec 7 => { s.link with raised := r }) ?_
    ac_rfl

/-- Settles O43: the list sorted, with competition ranks, and its recompute. -/
theorem standingsAreRankedByTotal : Obligations.StandingsAreRankedByTotal := by
  intro s
  obtain ⟨-, hordered⟩ := rankedTeams_perm s
  refine ⟨?_, ?_, fun k => ?_, fun x hx => ?_, by simp [changesOnly], recompute_score s, ?_⟩
  · rw [standingsOf_eq]
    exact List.pairwise_map.mpr (hordered.imp fun hbefore => hbefore)
  · rw [standingsOf_eq, List.length_map]
    exact rankedTeams_length s
  · rw [standingsOf_eq, ← teamListed_iff]
    simp only [List.mem_map, exists_exists_and_eq_and, mem_rankedTeams]
    exact ⟨fun ⟨x, hx, hk⟩ => hk ▸ hx.1, fun hk => ⟨(k, s.score.totals[k]), ⟨hk, rfl⟩, rfl⟩⟩
  · rw [standingsOf_eq] at hx ⊢
    obtain ⟨y, hy, rfl⟩ := List.mem_map.mp hx
    refine ⟨(mem_rankedTeams.mp hy).2, ?_⟩
    simp [List.filter_map, Function.comp_def]
  · have hraised := recompute_onlyRaises (s := s)
    rwa [recompute_score] at hraised

end

section
/-! PROOFS. HELLO taken, and the two instants of a catch-up: its deadline and the idle watch (R172 to R175, R178). -/

namespace Sys2Proof.Machine

open Sys2Proof.Safety

variable {s t u : State} {f : RxEntry}

/-! ### The desks that marked (R174) -/

theorem markRole_presenter (m : Byte) : markRole m = .presenter ↔ m.toNat % 8 = 0 := by
  have hcode : (m.extractLsb' 0 3).toNat = m.toNat % 8 := by simp [BitVec.extractLsb'_toNat]
  unfold markRole roleOfCode
  split
  · next h => simpa [hcode] using h
  · next h => simpa [hcode] using h

theorem mem_markedDesks {st : Station} : st ∈ markedDesks f s ↔ st ≠ s.straps.station
    ∧ ∃ m ∈ f.marks, m.toNat / 8 = st.val ∧ m.toNat % 8 ≠ 0 := by
  simp only [markedDesks, List.mem_filter, List.mem_dedup, List.mem_map, decide_eq_true_eq, ne_eq, markRole_presenter,
    upperStation_eq_iff]
  constructor
  · rintro ⟨⟨m, ⟨hm, hcode⟩, hst⟩, hother⟩
    exact ⟨hother, m, hm, hst, hcode⟩
  · rintro ⟨hother, m, hm, hst, hcode⟩
    exact ⟨⟨m, ⟨hm, hcode⟩, hst⟩, hother⟩

theorem markedDesks_nodup (f : RxEntry) (s : State) : (markedDesks f s).Nodup := (List.nodup_dedup _).filter _

/-! ### A catch-up that begins (R174) -/

/-- A move of the catch-up is signalled (R171). -/
theorem setCatchUp_moved {c : CatchUp} (h : s.roster.catchUp.state ≠ c.state) :
    setCatchUp c s = raise .catchUp { s with roster := { s.roster with catchUp := c } } := by
  simp [setCatchUp, raiseIf, h]

theorem beginCatchUp_waiting (hnone : s.roster.catchUp.state = .none) (hmarked : markedDesks f s ≠ []) :
    beginCatchUp f s = raise .catchUp { s with roster := { s.roster with
      catchUp := { state := .waiting, expected := markedDesks f s, received := [], deadline := some (f.stamp + 4000) } } } := by
  simp only [beginCatchUp, if_neg hmarked]
  rw [setCatchUp_moved (by simp [hnone])]
  rfl

theorem beginCatchUp_done (hnone : s.roster.catchUp.state = .none) (hmarked : markedDesks f s = []) :
    beginCatchUp f s = raise .catchUp { s with
      store := { s.store with adrift := false }
      roster := { s.roster with
        catchUp := { state := .done, expected := [], received := [], deadline := none } } } := by
  simp only [beginCatchUp, if_pos hmarked, catchUpDone]
  rw [setCatchUp_moved (by simp [hnone])]
  rfl

theorem ownHello_iff : ownHello f s = true ↔ keyStation f.key = s.straps.station ∧ s.store.twin = false := by
  simp [ownHello]

theorem beginsCatchUp_iff : beginsCatchUp f s = true ↔ s.store.adrift = true ∧ s.roster.catchUp.state = .none
    ∧ (s.engine.state = .standby ∨ s.engine.state = .closed) ∧ f.tailCut = false := by
  simp [beginsCatchUp, and_assoc]

/-! ### Requests (R42, R172, R175) -/

theorem requestTally_standing (h : stands .tally s = true) : requestTally s = s := if_pos h

theorem requestTally_placed (h : stands .tally s = false) (hroom : s.sched.queue.length < 12) :
    requestTally s = setQueue (insertByKey (newEntry s .tally 0 0 0 {}) s.sched.queue) s :=
  (if_neg (by simp [h])).trans (place_room s _ hroom)

theorem requestHello_left (h : stands .hello s = true ∨ 12 ≤ s.sched.queue.length) : requestHello s = s := by
  unfold requestHello
  split
  · rfl
  · next hstands => exact place_full s _ (h.resolve_left hstands)

theorem requestHello_placed (h : stands .hello s = false) (hroom : s.sched.queue.length < 12) :
    requestHello s = setQueue (insertByKey (newEntry s .hello 0 0 0 {}) s.sched.queue) s :=
  (if_neg (by simp [h])).trans (place_room s _ hroom)

/-! ### The deadline (R178) -/

/-- The deadline is the next item of a WAITING catch-up only. -/
theorem waiting_of_deadline (h : nextWork s = some .deadline) : s.roster.catchUp.state = .waiting := by
  obtain ⟨-, hdue⟩ := (nextWork_due (by decide) (by decide)).mp h
  cases hitem : deadlineItem s with
  | none =>
    rw [hitem] at hdue
    cases hexpiry : expiryItem s <;> simp [hexpiry, firstOf, earlier] at hdue
  | some i =>
    obtain ⟨hi, -⟩ := deadlineItem_eq_some.mp hitem
    exact (dueDeadline_eq_some.mp hi).1

end Sys2Proof.Machine
end

section

open Sys2Proof Sys2Proof.Machine Sys2Proof.Safety

/-- Settles O46: the census, and then the own HELLO or another station's. -/
theorem helloTakenBeginsOrAnswersACatchUp : Obligations.HelloTakenBeginsOrAnswersACatchUp := by
  intro s f h hk c own begins desk
  obtain ⟨_, -, -, hpass, -⟩ := frontTurn_facts h
  have hcatchUp : c.roster.catchUp = s.roster.catchUp :=
    (census_keeps (hearFrame f s) f).1.trans (hearFrame_roster f s).1
  have hstraps : c.straps = s.straps := by simp [c]
  have hstore : c.store = s.store := by simp [c]
  have hengine : c.engine = s.engine := by simp [c]
  have hsched : c.sched = s.sched := by simp [c]
  have hown : ownHello f c = true ↔ own := by
    rw [ownHello_iff, hstraps, hstore]
  have hbegins : beginsCatchUp f c = true ↔ begins := by
    rw [beginsCatchUp_iff, hstore, hcatchUp, hengine]
  have hdesk : ∀ st, st ∈ markedDesks f c ↔ desk st := fun st => by
    rw [mem_markedDesks, hstraps]
  have htaken : ∀ u, dealHello f (hearFrame f s) = u → u.engine = s.engine →
      exec .helloTaken s = .next (settle (releaseFront u)) := fun u hdeal hkept =>
    hdeal ▸ takeFront_released h hk (by rw [hdeal, hkept, hpass])
  have hdeal : dealHello f (hearFrame f s) = if ownHello f c then
      (if beginsCatchUp f c then beginCatchUp f c else c)
    else if c.straps.role = .presenter then c else requestTally c := rfl
  refine ⟨fun ho hb hsome => ⟨markedDesks f c, markedDesks_nodup f c, hdesk, htaken _ ?_ (by simp [hengine])⟩,
    fun ho hb hnone => htaken _ ?_ (by simp [hengine]), fun ho hb => htaken _ ?_ hengine,
    fun ho hrole => htaken _ ?_ hengine,
    fun k ho hrole => ⟨fun hstands => htaken _ ?_ hengine, fun hstands hroom => htaken _ ?_ (by simp [hengine])⟩⟩
  · obtain ⟨-, hstate, -⟩ := id hb
    obtain ⟨st, hst⟩ := hsome
    rw [hdeal, if_pos (hown.mpr ho), if_pos (hbegins.mpr hb), beginCatchUp_waiting (by rw [hcatchUp, hstate])]
    exact List.ne_nil_of_mem ((hdesk st).mpr hst)
  · obtain ⟨-, hstate, -⟩ := id hb
    rw [hdeal, if_pos (hown.mpr ho), if_pos (hbegins.mpr hb), beginCatchUp_done (by rw [hcatchUp, hstate])]
    exact List.eq_nil_iff_forall_not_mem.mpr fun st hst => hnone ⟨st, (hdesk st).mp hst⟩
  · rw [hdeal, if_pos (hown.mpr ho), if_neg (mt hbegins.mp hb)]
  · rw [hdeal, if_neg (mt hown.mp ho), if_pos (by rw [hstraps, hrole])]
  · rw [hdeal, if_neg (mt hown.mp ho), if_neg (by simp [hstraps, hrole]), requestTally_standing]
    rwa [stands, hsched]
  · rw [hdeal, if_neg (mt hown.mp ho), if_neg (by simp [hstraps, hrole]),
      requestTally_placed (by rwa [stands, hsched]) (by rwa [hsched]), show newEntry c .tally 0 0 0 {} =
        newEntry s .tally 0 0 0 {} by simp only [newEntry, hstraps]]
    rfl

/-- Settles O48: the deadline, and the idle watch at its instant. -/
theorem deadlineAndIdleWatchTakeTheirInstants : Obligations.DeadlineAndIdleWatchTakeTheirInstants := by
  refine ⟨fun s hheld hnext => ?_, fun s since hheld hidle hsince hnow hfired hstate hadrift hnone => ?_⟩
  · have hwaiting := waiting_of_deadline hnext
    have hends : abandonCatchUp s = raise .catchUp { s with roster := { s.roster with
        catchUp := { state := .none, expected := [], received := [], deadline := none } } } :=
      (if_pos hwaiting).trans (setCatchUp_moved (by simp [hwaiting, catchUpNone]))
    rw [← hends]
    exact event_next hheld (effect := deadlineEffect) (occasion_eq_some.mpr ⟨by simp [hnext], rfl⟩)
  · have hwatch : exec .idleWatch s = .next (settle (requestHello
        { s with roster := { s.roster with watchFired := true } })) := by
      refine event_next hheld (effect := idleWatchEffect) ?_
      simp only [idleWatchEffect, hsince]
      refine occasion_eq_some.mpr ⟨?_, rfl⟩
      have hreached : s.clock.now - since = ms Config.idleWatchTime := by
        rw [hnow, add_sub_cancel_left]
        rfl
      simp [hidle, hreached, hfired, hstate, hadrift, hnone]
    rw [hwatch]
    exact ⟨fun hleft => congrArg (fun u => Host.Outcome.next (settle u)) (requestHello_left hleft),
      fun hstands hroom => congrArg (fun u => Host.Outcome.next (settle u)) (requestHello_placed hstands hroom)⟩

end

section
/-! PROOFS. TALLY taken: the overwrite of the sender's seats and the catch-up that counts it (R163, R177). -/

namespace Sys2Proof.Machine

open Sys2Proof.Safety

variable {s t u : State} {f : RxEntry} {st x : Station} {seat i : Seat}

/-! ### The record found for a seat -/

theorem find_insertRecord_other {p : SeatRecord → Bool} {r : SeatRecord} (hr : p r = false) (l : List SeatRecord) :
    (insertRecord r l).find? p = l.find? p := by
  induction l with
  | nil => simp [insertRecord, hr]
  | cons h l ih =>
    unfold insertRecord
    split
    · rw [List.find?_cons_of_neg (by simp [hr])]
    · simp only [List.find?_cons, ih]

theorem find_insertRecord_new {p : SeatRecord → Bool} {r : SeatRecord} (hr : p r = true) {l : List SeatRecord}
    (hl : ∀ x ∈ l, p x = false) : (insertRecord r l).find? p = some r := by
  induction l with
  | nil => simp [insertRecord, hr]
  | cons h l ih =>
    unfold insertRecord
    split
    · rw [List.find?_cons_of_pos hr]
    · rw [List.find?_cons_of_neg (by simp [hl h (by simp)]), ih fun x hx => hl x (by simp [hx])]

/-- A seat's record stands where it stood, and is the new one where it did not. -/
theorem recordOf_ensureRecord (st x : Station) (seat i : Seat) (s : State) : recordOf (ensureRecord st seat s) x i
    = if x = st ∧ i = seat then some ((recordOf s st seat).getD (newRecord st seat)) else recordOf s x i := by
  cases hold : recordOf s st seat with
  | some r =>
    have hkept : ensureRecord st seat s = s := by simp [ensureRecord, hold]
    rw [hkept]
    split
    · next hsame => rw [hsame.1, hsame.2, hold, Option.getD_some]
    · rfl
  | none =>
    have hrecords := ensureRecord_records (s := s) st seat
    rw [hold] at hrecords
    unfold recordOf
    rw [hrecords, if_neg (by simp)]
    split
    · next hsame =>
      rw [hsame.1, hsame.2]
      exact find_insertRecord_new (by simp [newRecord]) fun y hy => by simpa using recordOf_none hold y hy
    · next hother =>
      refine find_insertRecord_other ?_ _
      rw [Bool.and_eq_false_iff, decide_eq_false_iff_not, decide_eq_false_iff_not, ← not_and_or]
      exact fun hsame => hother ⟨hsame.1.symm, hsame.2.symm⟩

/-- A rewriting changes the record of its seat alone. -/
theorem recordOf_rewriteRecord {g : SeatRecord → SeatRecord}
    (hg : ∀ r, (g r).station = r.station ∧ (g r).seat = r.seat) (st x : Station) (seat i : Seat) (s : State) :
    recordOf (rewriteRecord st seat g s) x i
      = if x = st ∧ i = seat then (recordOf s st seat).map g else recordOf s x i := by
  have hfound : recordOf (rewriteRecord st seat g s) x i = (recordOf s x i).map fun r =>
      if r.station = st ∧ r.seat = seat then g r else r := by
    unfold recordOf
    rw [rewriteRecord_records, List.find?_map]
    congr 2
    funext r
    simp only [Function.comp_apply]
    split <;> simp [hg]
  rw [hfound]
  cases hold : recordOf s x i with
  | none =>
    split
    · next hsame => rw [← hsame.1, ← hsame.2, hold, Option.map_none, Option.map_none]
    · rfl
  | some r =>
    obtain ⟨-, rfl, rfl⟩ := recordOf_some s hold
    rw [Option.map_some]
    split
    · next hsame => rw [← hsame.1, ← hsame.2, hold, Option.map_some]
    · rfl

theorem ensureRecord_ordered (st : Station) (seat : Seat) (hs : recordsOrdered s.score.records) :
    recordsOrdered (ensureRecord st seat s).score.records := by
  rw [ensureRecord_records]
  cases hold : recordOf s st seat with
  | some r => exact hs
  | none => exact insertRecord_ordered hs (recordOf_none hold)

/-! ### The overwrite (R163) -/

/-- What a TALLY makes of a record of its sender. -/
def tallied (body : List Byte) (count : Nat) (seat : Seat) (r : SeatRecord) : SeatRecord :=
  { r with total := tallyTotal body seat.val, streak := tallyStreak body count seat.val }

theorem overwriteSeat_eq (st : Station) (body : List Byte) (count : Nat) (s : State) (seat : Seat) :
    overwriteSeat st body count s seat = rewriteRecord st seat (tallied body count seat) (ensureRecord st seat s) := rfl

theorem overwriteSeat_ordered (st : Station) (body : List Byte) (count : Nat) (seat : Seat)
    (hs : recordsOrdered s.score.records) : recordsOrdered (overwriteSeat st body count s seat).score.records := by
  rw [overwriteSeat_eq, rewriteRecord_records]
  exact map_ordered (fun r => by split <;> exact ⟨rfl, rfl⟩) (ensureRecord_ordered st seat hs)

theorem recordOf_overwriteSeat (st x : Station) (body : List Byte) (count : Nat) (seat i : Seat) (s : State) :
    recordOf (overwriteSeat st body count s seat) x i = if x = st ∧ i = seat
      then some (tallied body count seat ((recordOf s st seat).getD (newRecord st seat))) else recordOf s x i := by
  have hplace : ∀ r, (tallied body count seat r).station = r.station ∧ (tallied body count seat r).seat = r.seat :=
    fun _ => ⟨rfl, rfl⟩
  have hown : recordOf (ensureRecord st seat s) st seat = some ((recordOf s st seat).getD (newRecord st seat)) := by
    rw [recordOf_ensureRecord, if_pos ⟨rfl, rfl⟩]
  rw [overwriteSeat_eq, recordOf_rewriteRecord hplace, hown]
  split
  · rfl
  · next hother => rw [recordOf_ensureRecord, if_neg hother]

/-- Each seat of a list without repetition is overwritten once, the others stand. -/
theorem recordOf_overwritten (st : Station) (body : List Byte) (count : Nat) (l : List Seat) (hl : l.Nodup) :
    ∀ s : State, (∀ x i, x ≠ st ∨ i ∉ l → recordOf (l.foldl (overwriteSeat st body count) s) x i = recordOf s x i)
      ∧ ∀ i ∈ l, recordOf (l.foldl (overwriteSeat st body count) s) st i
        = some (tallied body count i ((recordOf s st i).getD (newRecord st i))) := by
  induction l with
  | nil => simp
  | cons seat l ih =>
    intro s
    obtain ⟨hnot, hrest⟩ := List.nodup_cons.mp hl
    obtain ⟨hothers, hseats⟩ := ih hrest (overwriteSeat st body count s seat)
    refine ⟨fun x i hout => ?_, fun i hi => ?_⟩
    · rw [List.foldl_cons, hothers x i (hout.imp_right fun h => by simp_all), recordOf_overwriteSeat, if_neg]
      rintro ⟨hx, hi⟩
      exact hout.elim (fun h => h hx) fun h => h (by simp [hi])
    · rw [List.foldl_cons]
      rcases List.mem_cons.mp hi with rfl | hi
      · rw [hothers st i (.inr hnot), recordOf_overwriteSeat, if_pos ⟨rfl, rfl⟩]
      · have hother : i ≠ seat := fun heq => hnot (heq ▸ hi)
        rw [hseats i hi, recordOf_overwriteSeat, if_neg fun h => hother h.2]

theorem mem_seatsBelow {n : Nat} : i ∈ seatsBelow n ↔ i.val < n := by
  simp [seatsBelow]

theorem seatsBelow_nodup (n : Nat) : (seatsBelow n).Nodup := (List.nodup_finRange 8).filter _

/-- The seats overwritten, the list not yet recomputed. -/
def seatsOverwritten (st : Station) (body : List Byte) (s : State) : State :=
  (seatsBelow (numAt body 3)).foldl (overwriteSeat st body (numAt body 3)) s

theorem overwriteSeats_eq (st : Station) (body : List Byte) (s : State) :
    overwriteSeats st body s = recompute (seatsOverwritten st body s) := rfl

theorem overwriteSeats_recordOf (st x : Station) (body : List Byte) (i : Seat) (s : State) :
    recordOf (overwriteSeats st body s) x i = recordOf (seatsOverwritten st body s) x i :=
  recordOf_congr recompute_records

theorem overwriteSeats_ordered (st : Station) (body : List Byte) (hs : recordsOrdered s.score.records) :
    recordsOrdered (overwriteSeats st body s).score.records := by
  rw [overwriteSeats_eq, recompute_records]
  exact foldl_holds (P := fun t : State => recordsOrdered t.score.records)
    (fun _ seat ht => overwriteSeat_ordered st body (numAt body 3) seat ht) _ s hs

theorem overwriteSeats_onlyRaises (st : Station) (body : List Byte) (s : State) :
    onlyRaises [(decide ((overwriteSeats st body s).score.standings ≠ s.score.standings), .standings)] s
      (overwriteSeats st body s) := by
  have hraised := recompute_onlyRaises (s := seatsOverwritten st body s)
  have hkept : (seatsOverwritten st body s).link = s.link
      ∧ (seatsOverwritten st body s).score.standings = s.score.standings :=
    ⟨foldl_keeps State.link _ (fun _ _ => by simp) _ _, foldl_keeps (fun t : State => t.score.standings) _ (fun t i => by
      unfold overwriteSeat rewriteRecord ensureRecord
      (repeat' split) <;> simp [moveTotal_standings]) _ _⟩
  rwa [onlyRaises, hkept.1, hkept.2] at hraised

/-! ### The show adopted (R177) -/

/-- The show of a TALLY is adopted where none is known. -/
def showKnown (f : RxEntry) (s : State) : State := if s.engine.showNo = 0 then adoptShow f s else s

theorem showKnown_frame (f : RxEntry) (s : State) : (showKnown f s).power = s.power
    ∧ (showKnown f s).straps = s.straps ∧ (showKnown f s).pending = s.pending ∧ (showKnown f s).line = s.line
    ∧ (showKnown f s).store = s.store ∧ (showKnown f s).panel = s.panel ∧ (showKnown f s).clock = s.clock
    ∧ (showKnown f s).buzz = s.buzz ∧ (showKnown f s).poll = s.poll ∧ (showKnown f s).score = s.score
    ∧ (showKnown f s).roster = s.roster := by
  unfold showKnown
  split <;> simp

theorem showKnown_score (f : RxEntry) (s : State) : (showKnown f s).score = s.score := by simp [showKnown_frame]

theorem adoptShow_engine (f : RxEntry) (s : State) : (adoptShow f s).engine = { s.engine with
    showNo := clampNumber (numAt f.body 0), lastNo := numAt f.body 1
    state := if s.engine.state = .standby then .closed else s.engine.state } := by
  simp only [adoptShow]
  split <;> simp [*]

theorem adoptShow_sched (f : RxEntry) (s : State) : (adoptShow f s).sched
    = helloIf (s.store.adrift && decide (s.engine.state = .standby ∧ s.roster.catchUp.state = .none))
      s.straps.station s.sched := by
  simp only [adoptShow]
  split
  · next hstandby =>
    have hdue : decide (s.engine.state = .standby ∧ s.roster.catchUp.state = .none)
        = decide (s.roster.catchUp.state = .none) := decide_eq_decide.mpr (by simp [hstandby])
    rw [helloOccasion_sched, hdue]
    rfl
  · next hstate => simp [hstate, helloIf]

theorem adoptShow_link (f : RxEntry) (s : State) : onlyRaises [(true, .round)] s (adoptShow f s) := by
  unfold onlyRaises
  simp only [adoptShow]
  split <;> simp

theorem showKnown_engine (f : RxEntry) (s : State) : (showKnown f s).engine = if s.engine.showNo = 0 then
    { s.engine with showNo := clampNumber (numAt f.body 0), lastNo := numAt f.body 1
                    state := if s.engine.state = .standby then .closed else s.engine.state }
    else s.engine := by
  unfold showKnown
  split
  · exact adoptShow_engine f s
  · rfl

theorem showKnown_sched (f : RxEntry) (s : State) : (showKnown f s).sched = helloIf
    (s.store.adrift && decide (s.engine.showNo = 0 ∧ s.engine.state = .standby ∧ s.roster.catchUp.state = .none))
    s.straps.station s.sched := by
  unfold showKnown
  split
  · next hunknown => simp [adoptShow_sched, hunknown]
  · next hknown => simp [hknown, helloIf]

theorem showKnown_onlyRaises (f : RxEntry) (s : State) :
    onlyRaises [(decide (s.engine.showNo = 0), .round)] s (showKnown f s) := by
  unfold showKnown
  split
  · next hunknown => simpa [hunknown] using adoptShow_link f s
  · next hknown =>
    unfold onlyRaises
    simp [hknown]

/-! ### The sender counted (R177) -/

/-- The stations that a catch-up has received, with the sender. -/
def receivedWith (st : Station) (s : State) : List Station :=
  if st = s.straps.station ∨ st ∈ s.roster.catchUp.received then s.roster.catchUp.received
  else s.roster.catchUp.received ++ [st]

theorem receiveTally_idle (h : s.roster.catchUp.state ≠ .waiting) : receiveTally st s = s := if_pos h

theorem receiveTally_waiting (h : s.roster.catchUp.state = .waiting) : receiveTally st s
    = if s.roster.catchUp.expected.all (fun x => decide (x ∈ receivedWith st s))
      then catchUpDone s.roster.catchUp.expected (receivedWith st s) s
      else setCatchUp { s.roster.catchUp with received := receivedWith st s } s :=
  if_neg (by simp [h])

theorem receiveTally_missing (h : s.roster.catchUp.state = .waiting)
    (hmissing : s.roster.catchUp.expected.all (fun x => decide (x ∈ receivedWith st s)) = false) : receiveTally st s
      = setCatchUp { s.roster.catchUp with received := receivedWith st s } s := by
  rw [receiveTally_waiting h, if_neg (by simp [hmissing])]

theorem receiveTally_complete (h : s.roster.catchUp.state = .waiting)
    (hall : s.roster.catchUp.expected.all (fun x => decide (x ∈ receivedWith st s)) = true) : receiveTally st s
      = catchUpDone s.roster.catchUp.expected (receivedWith st s) s := by
  rw [receiveTally_waiting h, if_pos hall]

theorem receiveTally_onlyRaises (st : Station) (s : State) : onlyRaises [(decide (s.roster.catchUp.state = .waiting)
    && s.roster.catchUp.expected.all fun x => decide (x ∈ receivedWith st s), .catchUp)] s (receiveTally st s) := by
  unfold onlyRaises
  by_cases hwaiting : s.roster.catchUp.state = .waiting
  · cases hall : s.roster.catchUp.expected.all fun x => decide (x ∈ receivedWith st s) with
    | false =>
      rw [receiveTally_missing hwaiting hall]
      simp [setCatchUp_link]
    | true =>
      rw [receiveTally_complete hwaiting hall]
      simp [catchUpDone, setCatchUp_link, hwaiting]
  · rw [receiveTally_idle hwaiting]
    simp [hwaiting]

theorem setCatchUp_kept (c : CatchUp) (s : State) :
    (setCatchUp c s).roster = { s.roster with catchUp := c } ∧ (setCatchUp c s).store = s.store :=
  ⟨setCatchUp_roster s c, by simp⟩

theorem catchUpDone_kept (expected received : List Station) (s : State) :
    (catchUpDone expected received s).roster = { s.roster with
      catchUp := { state := .done, expected := expected, received := received, deadline := none } }
    ∧ (catchUpDone expected received s).store = { s.store with adrift := false } := by
  simp [catchUpDone, setCatchUp_roster]

/-- A TALLY that is not refused, step by step. -/
def tallyCounted (f : RxEntry) (s : State) : State :=
  receiveTally (keyStation f.key) (overwriteSeats (keyStation f.key) f.body (showKnown f s))

theorem dealTally_refused (hknown : s.engine.showNo ≠ 0) (hother : s.engine.showNo ≠ clampNumber (numAt f.body 0)) :
    dealTally f s = refuseFrame f .showDiffers s := if_pos ⟨hknown, hother⟩

theorem dealTally_counted (hshow : s.engine.showNo = 0 ∨ s.engine.showNo = clampNumber (numAt f.body 0)) :
    dealTally f s = tallyCounted f s := if_neg fun h => hshow.elim h.1 h.2

theorem tallyCounted_score (f : RxEntry) (s : State) :
    (tallyCounted f s).score = (overwriteSeats (keyStation f.key) f.body (showKnown f s)).score := by
  simp [tallyCounted]

theorem tallyCounted_engine (f : RxEntry) (s : State) : (tallyCounted f s).engine = (showKnown f s).engine := by
  simp [tallyCounted]

theorem tallyCounted_entries (f : RxEntry) (s : State) : (tallyCounted f s).roster.entries = s.roster.entries := by
  simp [tallyCounted, showKnown_frame]

theorem tallyCounted_standings (f : RxEntry) (s : State) :
    (tallyCounted f s).score.standings = standingsOf (tallyCounted f s) := by
  have hentries : (tallyCounted f s).roster.entries
      = (overwriteSeats (keyStation f.key) f.body (showKnown f s)).roster.entries := by simp [tallyCounted]
  rw [standingsOf_congr (b := overwriteSeats (keyStation f.key) f.body (showKnown f s)) (by rw [tallyCounted_score])
    (by rw [tallyCounted_score]) fun st => by rw [rosterOf, rosterOf, hentries], tallyCounted_score]
  exact recompute_standings _

theorem tallyCounted_scoresAddUp (hs : scoresAddUp s) : scoresAddUp (tallyCounted f s) := by
  have hknown : scoresAddUp (showKnown f s) := scoresAddUp_congr hs (by simp [showKnown_frame])
    (by simp [showKnown_frame]) fun st => by simp [rosterOf, showKnown_frame]
  obtain ⟨hsums, -⟩ := overwriteSeats_scoresSound (keyStation f.key) f.body hknown
  exact scoresAddUp_congr hsums (by simp [tallyCounted]) (by simp [tallyCounted]) fun st => by
    simp [rosterOf, tallyCounted]

theorem tallyCounted_recordOf (f : RxEntry) (s : State) :
    (∀ x i, x ≠ keyStation f.key ∨ numAt f.body 3 ≤ i.val → recordOf (tallyCounted f s) x i = recordOf s x i)
    ∧ ∀ i : Seat, i.val < numAt f.body 3 → recordOf (tallyCounted f s) (keyStation f.key) i
      = some (tallied f.body (numAt f.body 3) i
        ((recordOf s (keyStation f.key) i).getD (newRecord (keyStation f.key) i))) := by
  have hfound : ∀ x i, recordOf (tallyCounted f s) x i
      = recordOf (seatsOverwritten (keyStation f.key) f.body (showKnown f s)) x i := fun x i =>
    (recordOf_congr (by rw [tallyCounted_score])).trans (overwriteSeats_recordOf ..)
  have hknown : ∀ x i, recordOf (showKnown f s) x i = recordOf s x i := fun x i =>
    recordOf_congr (by simp [showKnown_frame])
  obtain ⟨hothers, hseats⟩ := recordOf_overwritten (keyStation f.key) f.body (numAt f.body 3)
    (seatsBelow (numAt f.body 3)) (seatsBelow_nodup _) (showKnown f s)
  refine ⟨fun x i hout => ?_, fun i hi => ?_⟩
  · rw [hfound, ← hknown]
    exact hothers x i (hout.imp_right fun h => by simpa [mem_seatsBelow] using h)
  · rw [hfound, ← hknown]
    exact hseats i (mem_seatsBelow.mpr hi)

end Sys2Proof.Machine
end

section

open Sys2Proof Sys2Proof.Machine Sys2Proof.Safety

/-- Settles O47: the show adopted, the seats overwritten, and the sender counted. -/
theorem tallyTakenOverwritesAndCounts : Obligations.TallyTakenOverwritesAndCounts := by
  intro s f h hk hordered h' st count show_ c received
  obtain ⟨_, -, -, hpass, -⟩ := frontTurn_facts h
  have hengine : h'.engine = s.engine := by simp [h']
  refine ⟨fun hknown hother => ?_, fun hshow => ?_⟩
  · have hdeal : dealTally f h' = refuseFrame f .showDiffers h' :=
      dealTally_refused (by rwa [hengine]) (by rw [hengine]; exact hother)
    exact hdeal ▸ takeFront_released h hk (by rw [hdeal]; simp [hengine, hpass])
  · have hdeal : dealTally f h' = tallyCounted f h' := dealTally_counted (by rw [hengine]; exact hshow)
    have hcatchUp : h'.roster.catchUp = c := (hearFrame_roster f s).1
    have hstraps : h'.straps = s.straps := by simp [h']
    have hstore : h'.store = s.store := by simp [h']
    have hrecords : ∀ x i, recordOf h' x i = recordOf s x i := fun x i => recordOf_congr hearFrame_records
    have hoverwritten : (overwriteSeats st f.body (showKnown f h')).roster = h'.roster
        ∧ (overwriteSeats st f.body (showKnown f h')).store = s.store
        ∧ (overwriteSeats st f.body (showKnown f h')).straps = s.straps := by
      simp [showKnown_frame, hstore, hstraps]
    obtain ⟨hroster, hkeptStore, hkeptStraps⟩ := hoverwritten
    have hreceived : receivedWith st (overwriteSeats st f.body (showKnown f h')) = received := by
      rw [receivedWith, hkeptStraps, hroster, hcatchUp]
    obtain ⟨hothers, hseats⟩ := tallyCounted_recordOf f h'
    refine ⟨tallyCounted f h', hdeal ▸ takeFront_released h hk ?_, ?_, ?_, ?_, ?_, fun x i hout => ?_, fun i hi => ?_,
      fun hs => ?_, ?_, ?_, fun hidle => ?_, fun hwaiting hmissing => ?_, fun hwaiting hall => ?_, ?_⟩
    · rw [hdeal, tallyCounted_engine, showKnown_engine, hengine]
      split <;> exact hpass
    · simp [changesOnly, tallyCounted, showKnown_frame]
    · rw [tallyCounted_engine, showKnown_engine, hengine]
      rfl
    · simp only [tallyCounted, receiveTally_frame, overwriteSeats_frame, showKnown_sched, hengine, hstraps, hstore,
        hcatchUp]
      simp [h']
    · rw [tallyCounted_score]
      refine overwriteSeats_ordered _ _ ?_
      simpa [showKnown_frame, h', hearFrame_records] using hordered
    · rw [hothers x i hout, hrecords]
    · rw [hseats i hi, hrecords]
      rfl
    · exact tallyCounted_scoresAddUp hs
    · exact tallyCounted_standings f h'
    · exact tallyCounted_entries f h'
    · rw [tallyCounted, receiveTally_idle (by rw [hroster, hcatchUp]; exact hidle)]
      exact ⟨hroster, hkeptStore⟩
    · obtain ⟨hmoved, hkept⟩ := setCatchUp_kept { c with received := received }
        (overwriteSeats st f.body (showKnown f h'))
      rw [tallyCounted, receiveTally_missing (by rw [hroster, hcatchUp]; exact hwaiting)
        (by rw [hreceived, hroster, hcatchUp]; simpa using hmissing), hreceived, hroster, hcatchUp]
      exact ⟨by rw [hmoved, hroster], hkept.trans hkeptStore⟩
    · obtain ⟨hmoved, hkept⟩ := catchUpDone_kept c.expected received (overwriteSeats st f.body (showKnown f h'))
      rw [tallyCounted, receiveTally_complete (by rw [hroster, hcatchUp]; exact hwaiting)
        (by rw [hreceived, hroster, hcatchUp]; simpa using hall), hreceived, hroster, hcatchUp]
      exact ⟨by rw [hmoved, hroster], by rw [hkept, hkeptStore]⟩
    · have hraised := onlyRaises_trans (showKnown_onlyRaises f h') (onlyRaises_trans
        (overwriteSeats_onlyRaises st f.body (showKnown f h'))
        (receiveTally_onlyRaises st (overwriteSeats st f.body (showKnown f h'))))
      rw [hreceived, hroster, hcatchUp, hengine, (showKnown_score f h')] at hraised
      rw [tallyCounted_score]
      exact hraised

end

section
/-! PROOFS. The desk link: a record that completes is judged and replied to at once; the reads, NOTICES, CATCH-UP and
CLEAR-LINE (R40, R183 to R186). -/

namespace Sys2Proof.Machine

open Sys2Proof.Safety

variable {s t u : State} {c : Command} {st : Station} {seat : Seat}

/-! ### Judging (R184) -/

theorem tested_nil (pass : Ruling) (s : State) : tested [] pass s = pass := rfl

theorem tested_failed {fails : Bool} (h : fails = true) (why : Refused) (rest : List (Bool × Refused)) (pass : Ruling)
    (s : State) : tested ((fails, why) :: rest) pass s = refuse why s := by
  subst h
  rfl

theorem tested_passed {fails : Bool} (h : fails = false) (why : Refused) (rest : List (Bool × Refused)) (pass : Ruling)
    (s : State) : tested ((fails, why) :: rest) pass s = tested rest pass s := by
  subst h
  rfl

theorem rule_anyRole (h : c.presenterOnly = false) (s : State) : rule (some c) s = obey c s := by
  simp [rule, h]

theorem rule_atPresenter (h : s.straps.role = .presenter) : rule (some c) s = obey c s := by
  simp [rule, h]

theorem rule_atDesk {k : Team} (h : s.straps.role = .desk k) (hc : c.presenterOnly = true) :
    rule (some c) s = refuse .notPresenter s := by
  simp [rule, h, hc]

/-! ### A record that completes (R183) -/

theorem slotsHeld_eq_false (h : slotFree s) : slotsHeld s = false := by
  simpa [slotsHeld, Config.inputSlots] using h.2

theorem recordDone_judged (kind : Byte) (c : Option Command) (h : slotFree s) : recordDone kind c s
    = withReply (kind + 0x80) (rule c s).status (rule c s).data (rule c s).after := by
  rw [recordDone, if_neg (by simp [slotsHeld_eq_false h])]
  rfl

/-- A command's record, its ruling known, is answered at once (R183). -/
theorem exec_ruled {r : Ruling} (h : slotFree s) (hr : rule (some c) s = r) :
    event (commandEffect c) s = .next (settle (withReply (c.code + 0x80) r.status r.data r.after)) := by
  refine event_next h.1 (effect := commandEffect c) ?_
  rw [commandEffect, recordDone_judged _ _ h, hr]

/-- A read is answered with OK and its data, and nothing else moves (R185). -/
theorem exec_reading {data : State → List Byte} {bytes : List Byte} (h : slotFree s) (hc : c.presenterOnly = false)
    (hr : obey c s = reading data s) (hbytes : data s = bytes) :
    event (commandEffect c) s = .next (settle (withReply (c.code + 0x80) .ok bytes s)) := by
  rw [exec_ruled h ((rule_anyRole hc s).trans hr), ← hbytes]
  rfl

/-! ### The data of the reads (R40) -/

theorem vector4_toList {α : Type} (v : Vector α 4) : v.toList = [v[0], v[1], v[2], v[3]] := by
  refine List.ext_getElem (by simp) fun i hi _ => ?_
  have hlt : i < 4 := by simpa using hi
  interval_cases i <;> simp

theorem entries_toList {α : Type} {n : Nat} (v : Vector α n) : v.toList = (List.finRange n).map fun i => v[i] :=
  List.ext_getElem (by simp) fun i _ _ => by simp

theorem namedSeat {target : Byte} (h : target.toNat = st.val * 8 + seat.val) :
    upperStation target = st ∧ lowerSeat target = seat := by
  obtain ⟨hst, hseat⟩ := namesFloor_iff.mpr h
  exact ⟨hst.symm, hseat.symm⟩

/-- The question number and choice count of a VOTES reply (R40). -/
theorem pollQuestion_data {n choices : Nat}
    (hpoll : ∀ q, s.engine.question = some q → q.type = .poll → n = q.number ∧ choices = q.choices)
    (hother : (∀ q, s.engine.question = some q → q.type ≠ .poll) → n = 0 ∧ choices = 0) :
    ((pollQuestion s).map (·.number)).getD 0 = n ∧ ((pollQuestion s).map (·.choices)).getD 0 = choices := by
  unfold pollQuestion
  cases hq : s.engine.question with
  | none =>
    obtain ⟨rfl, rfl⟩ := hother fun q hsome => by simp [hq] at hsome
    exact ⟨rfl, rfl⟩
  | some q =>
    by_cases htype : q.type = .poll
    · obtain ⟨rfl, rfl⟩ := hpoll q hq htype
      simp [Option.filter, htype]
    · obtain ⟨rfl, rfl⟩ := hother fun x hx => by
        rw [hq] at hx
        exact Option.some.inj hx ▸ htype
      simp [Option.filter, htype]

theorem votesData_eq {n choices : Nat} (hn : ((pollQuestion s).map (·.number)).getD 0 = n)
    (hchoices : ((pollQuestion s).map (·.choices)).getD 0 = choices) : votesData s = [byteOf n, byteOf choices]
      ++ bytes2 (BitVec.ofNat 16 s.poll.tally[0]) ++ bytes2 (BitVec.ofNat 16 s.poll.tally[1])
      ++ bytes2 (BitVec.ofNat 16 s.poll.tally[2]) ++ bytes2 (BitVec.ofNat 16 s.poll.tally[3])
      ++ bytes2 (BitVec.ofNat 16 s.poll.table.length) := by
  rw [votesData, hn, hchoices, vector4_toList]
  simp

/-! ### Entries of the desk link (R41, R42) -/

theorem queueFull_iff : queueFull s = true ↔ 12 ≤ s.sched.queue.length := by
  simp [queueFull, Config.transmitPlaces]

theorem queueFull_eq_false (h : ¬12 ≤ s.sched.queue.length) : queueFull s = false :=
  Bool.eq_false_iff.mpr (mt queueFull_iff.mp h)

theorem place_newEntry (kind : Kind) (question : Nat) (values : CommandValues) (h : ¬12 ≤ s.sched.queue.length) :
    place (newEntry s kind 0 0 question values) s = withEntry kind question values s :=
  place_room s _ (Nat.lt_of_not_le h)

/-- The STATE test of CATCH-UP passes with adrift set and no catch-up (R172, R185). -/
theorem catchUp_open : (!s.store.adrift || decide (s.roster.catchUp.state ≠ .none)) = false
    ↔ s.store.adrift = true ∧ s.roster.catchUp.state = .none := by
  simp

/-! ### The clear pulse (R21) -/

theorem maySend_iff : maySend s = true ↔ s.store.health ≠ .off ∧ s.store.twin = false := by
  simp [maySend]

theorem pulseLevel_eq (l : Level) : pulseLevel l = if l = .stuck ∨ l = .pulse then l else .unsettled := by
  cases l <;> simp [pulseLevel]

theorem stopMarking_other {r : Receiver} (h : ∀ t, r ≠ .tail t) : stopMarking r = r := by
  unfold stopMarking
  split
  · next t => exact absurd rfl (h t)
  · rfl

end Sys2Proof.Machine
end

section

open Sys2Proof Sys2Proof.Machine Sys2Proof.Safety

/-- Settles O49: the code tables, a seat's place in the queue, and the data of the six reads. -/
theorem readCommandsAnswerTheirData : Obligations.ReadCommandsAnswerTheirData := by
  refine ⟨⟨rfl, rfl, rfl, rfl, rfl, rfl⟩, fun s st seat => ⟨floorPlace_absent, fun front b back => floorPlace_found⟩,
    fun s h => ⟨?status, ?standings, fun hnone => ?empty, fun q hq => ?floor, fun target st seat hnamed => ?seat,
      fun n choices hpoll hother => ?votes, ?roster⟩⟩
  case status =>
    refine exec_reading (c := .status) h rfl rfl ?_
    unfold statusData currentNumber kindCode?
    cases s.engine.question <;> cases s.engine.refusal.kind <;> rfl
  case standings => exact exec_reading (c := .standings) h rfl rfl rfl
  case empty => exact exec_reading (c := .floor) h rfl rfl (by simp only [floorData, hnone])
  case floor =>
    refine exec_reading (c := .floor) h rfl rfl ?_
    simp only [floorData, hq]
    rfl
  case seat =>
    obtain ⟨hst, hseat⟩ := namedSeat hnamed
    refine exec_reading (c := .seat target) (data := seatData target) h rfl rfl ?_
    simp only [seatData, hst, hseat]
    cases pollOf s st seat <;> rfl
  case votes =>
    obtain ⟨hn, hchoices⟩ := pollQuestion_data hpoll hother
    exact exec_reading (c := .votes) h rfl rfl (votesData_eq hn hchoices)
  case roster =>
    refine exec_reading (c := .roster) h rfl rfl ?_
    rw [rosterData, entries_toList, List.map_map]
    refine List.map_congr_left fun st _ => ?_
    change rosterByte (rosterOf s st) = _
    unfold rosterByte
    cases (rosterOf s st).code with
    | none => rfl
    | some r => exact congrArg byteOf (Nat.add_assoc ..)

/-- Settles O50: NOTICES, CATCH-UP and CLEAR-LINE by their tests. -/
theorem noticesCatchUpAndClearLineCommands : Obligations.NoticesCatchUpAndClearLineCommands := by
  refine ⟨fun s mask h => exec_ruled (c := .notices mask) h (rule_anyRole rfl s), fun s h => ⟨fun hshut => ?shut,
    fun hopen hstands => ?standing, fun hopen hstands hfull => ?full, fun hopen hstands hroom => ?placed⟩,
    fun s h => ⟨fun hsilent => ?silent, fun hhealth htwin => ?pulse⟩⟩
  case shut =>
    exact exec_ruled (c := .catchUp) h ((rule_anyRole rfl s).trans
      (tested_failed (Bool.eq_true_of_not_eq_false (mt catchUp_open.mp hshut)) ..))
  case standing =>
    exact exec_ruled (c := .catchUp) h ((rule_anyRole rfl s).trans
      ((tested_passed (catchUp_open.mpr hopen) ..).trans (tested_failed hstands ..)))
  case full =>
    exact exec_ruled (c := .catchUp) h ((rule_anyRole rfl s).trans ((tested_passed (catchUp_open.mpr hopen) ..).trans
      ((tested_passed hstands ..).trans (tested_failed (queueFull_iff.mpr hfull) ..))))
  case placed =>
    have hrule : rule (some .catchUp) s = { after := requestHello s, status := .ok, data := [] } :=
      (rule_anyRole rfl s).trans ((tested_passed (catchUp_open.mpr hopen) ..).trans ((tested_passed hstands ..).trans
        ((tested_passed (queueFull_eq_false (Nat.not_le_of_lt hroom)) ..).trans (tested_nil ..))))
    rw [requestHello_placed hstands hroom] at hrule
    exact exec_ruled (c := .catchUp) h hrule
  case silent =>
    have htest : (!maySend s) = true := by
      rw [Bool.not_eq_true', ← Bool.not_eq_true, maySend_iff, not_and_or, ne_eq, not_not, Bool.not_eq_false]
      exact hsilent
    exact exec_ruled (c := .clearLine) h.1 ((rule_atPresenter h.2).trans (tested_failed htest ..))
  case pulse =>
    have htest : (!maySend s) = false := by
      rw [Bool.not_eq_false', maySend_iff]
      exact ⟨hhealth, htwin⟩
    refine ⟨startPulse s, exec_ruled (c := .clearLine) h.1 ((rule_atPresenter h.2).trans
      ((tested_passed htest ..).trans (tested_nil ..))), by simp [changesOnly], rfl, rfl, rfl, pulseLevel_eq _, rfl, rfl,
      rfl, fun t ht => ?_, fun hother => stopMarking_other hother⟩
    exact congrArg stopMarking ht

end

section
/-! PROOFS. The presenter commands of the desk link: their tests in order, and the entry that each places (R130, R148,
R186). -/

namespace Sys2Proof.Machine

open Sys2Proof.Safety

variable {s : State} {c : Command} {k : Kind} {n : Nat}

theorem standsFor_iff : standsFor k n s = true ↔ ∃ e ∈ s.sched.queue, e.kind = k ∧ e.question = n := by
  simp [standsFor]

/-! ### Refusals and entries -/

/-- A command that the first failing test refuses (R184, R186). -/
theorem exec_refused {why : Refused} (h : presenterReady s) (hr : obey c s = refuse why s) :
    event (commandEffect c) s = .next (settle (withReply (c.code + 0x80) (.refused why) [] s)) :=
  exec_ruled h.1 ((rule_atPresenter h.2).trans hr)

/-- A command whose tests pass places its entry where the queue has room (R42, R186). -/
theorem exec_placed {adjusted : Bool} {values : CommandValues} {status : Status} (h : presenterReady s)
    (hroom : ¬12 ≤ s.sched.queue.length) (hr : obey c s = placing adjusted (newEntry s k 0 0 n values) s)
    (hstatus : statusOf adjusted = status) :
    event (commandEffect c) s = .next (settle (withReply (c.code + 0x80) status [] (withEntry k n values s))) := by
  rw [exec_ruled h.1 ((rule_atPresenter h.2).trans hr), ← hstatus, ← place_newEntry k n values hroom]
  rfl

/-- CLOSE, HALT and RESUME (R186). -/
theorem exec_onQuestion {fits : Bool} (h : presenterReady s) (hr : obey c s = ruleOnQuestion k fits s) :
    (fits = false → event (commandEffect c) s = .next (settle (withReply (c.code + 0x80) (.refused .state) [] s)))
    ∧ (fits = true → standsFor k (currentNumber s) s = true →
      event (commandEffect c) s = .next (settle (withReply (c.code + 0x80) (.refused .duplicate) [] s)))
    ∧ (fits = true → standsFor k (currentNumber s) s = false → 12 ≤ s.sched.queue.length →
      event (commandEffect c) s = .next (settle (withReply (c.code + 0x80) (.refused .busy) [] s)))
    ∧ (fits = true → standsFor k (currentNumber s) s = false → ¬12 ≤ s.sched.queue.length →
      event (commandEffect c) s
        = .next (settle (withReply (c.code + 0x80) .ok [] (withEntry k (currentNumber s) {} s)))) := by
  refine ⟨fun hunfit => exec_refused h (hr.trans (tested_failed (by simp [hunfit]) ..)), fun hfit hstands => ?_,
    fun hfit hstands hfull => ?_, fun hfit hstands hroom => exec_placed (adjusted := false) h hroom ?_ rfl⟩
  · exact exec_refused h (hr.trans ((tested_passed (by simp [hfit]) ..).trans (tested_failed hstands ..)))
  · exact exec_refused h (hr.trans ((tested_passed (by simp [hfit]) ..).trans ((tested_passed hstands ..).trans
      (tested_failed (queueFull_iff.mpr hfull) ..))))
  · exact hr.trans ((tested_passed (by simp [hfit]) ..).trans ((tested_passed hstands ..).trans
      ((tested_passed (queueFull_eq_false hroom) ..).trans (tested_nil ..))))

/-! ### Clamped and reduced values (R31, R33) -/

theorem clampNumber_toNat (b : Byte) : clampNumber b.toNat = if b = 0 then 1 else b.toNat := by
  have hzero : b.toNat = 0 ↔ b = 0 := ⟨fun h => BitVec.eq_of_toNat_eq h, fun h => by simp [h]⟩
  simp only [clampNumber, hzero]

theorem byteOf_clampNumber (b : Byte) : byteOf (clampNumber b.toNat) = if b = 0 then 1 else b := by
  rw [clampNumber_toNat]
  split
  · rfl
  · exact BitVec.eq_of_toNat_eq (byteOf_toNat b.isLt)

theorem statusOf_eq (p : Prop) [Decidable p] (adjusted : Bool) (h : adjusted = true ↔ p) :
    statusOf adjusted = if p then .adjusted else .ok := by
  unfold statusOf
  by_cases hp : p
  · rw [if_pos hp, if_pos (h.mpr hp)]
  · rw [if_neg hp, if_neg (mt h.mp hp)]

theorem currentType_iff {t : QuestionType} :
    currentType t s = true ↔ ∃ q, s.engine.question = some q ∧ q.type = t := by
  cases hq : s.engine.question <;> simp [currentType, hq]

theorem namesFloor_floor {target : Byte} : namesFloor target s = true
    ↔ ∃ b, s.buzz.queue.head? = some b ∧ target.toNat = b.station.val * 8 + b.seat.val := by
  cases hb : s.buzz.queue.head? with
  | none => simp [namesFloor, floorOf, hb]
  | some b => simp [namesFloor, floorOf, hb, ← namesFloor_iff]

/-- The set byte reduced by the choices of the current question (R33, R148). -/
theorem reducedByte_eq {q : Question} {set reduced : Byte} (hq : s.engine.question = some q)
    (hbits : ∀ i : Fin 8, reduced.getLsbD i.val = (decide (i.val < 4 ∧ i.val < q.choices) && set.getLsbD i.val)) :
    reducedByte set s = reduced := by
  refine BitVec.eq_of_getLsbD_eq fun i hi => ?_
  rw [hbits ⟨i, hi⟩, reducedByte, hq, BitVec.getLsbD_setWidth]
  by_cases hlt : i < 4
  · have hchoice := inSet_reduceSet set q.choices ⟨i, hlt⟩
    simp only [inSet] at hchoice
    simp only [Option.map_some, Option.getD_some, hchoice, hi, hlt, true_and, decide_true, Bool.true_and]
  · simp [hlt, BitVec.getLsbD_of_ge _ _ (Nat.le_of_not_lt hlt)]

theorem usedOutcome_ne (o : Byte) : usedOutcome o ≠ o ↔ ¬(o = 1 ∨ o = 2 ∨ o = 3) := by
  unfold usedOutcome
  by_cases h : o = 1 ∨ o = 2 ∨ o = 3
  · rw [if_pos h]
    exact ⟨fun hne => absurd rfl hne, fun hnot => absurd h hnot⟩
  · rw [if_neg h]
    exact ⟨fun _ => h, fun _ heq => h (.inr (.inr heq.symm))⟩

end Sys2Proof.Machine
end

section

open Sys2Proof Sys2Proof.Machine Sys2Proof.Safety

/-- Settles O51: START-SHOW and ROLL, and the three commands on the current question. -/
theorem presenterCommandsPlaceTheirEntries : Obligations.PresenterCommandsPlaceTheirEntries := by
  refine ⟨fun k n s => ⟨stands_iff s k, standsFor_iff⟩, fun s h => ?_⟩
  intro full refused number
  refine ⟨fun showNo => ⟨fun hstands => ?_, fun hstands hfull => ?_, fun hstands hroom => ?_⟩, fun hstands => ?_,
    fun hstands hfull => ?_, fun hstands hroom => ?_, ?_⟩
  · exact exec_refused (c := .startShow showNo) h (tested_failed hstands ..)
  · exact exec_refused (c := .startShow showNo) h ((tested_passed hstands ..).trans
      (tested_failed (queueFull_iff.mpr hfull) ..))
  · rw [← byteOf_clampNumber]
    refine exec_placed (c := .startShow showNo) h hroom ((tested_passed hstands ..).trans
      ((tested_passed (queueFull_eq_false hroom) ..).trans (tested_nil ..))) (statusOf_eq _ _ ?_)
    rw [decide_eq_true_eq, byteOf_clampNumber]
    by_cases hzero : showNo = 0
    · rw [if_pos hzero, hzero]
      decide
    · rw [if_neg hzero]
      exact ⟨fun hne => absurd rfl hne, fun hz => absurd hz hzero⟩
  · exact exec_refused (c := .roll) h (tested_failed hstands ..)
  · exact exec_refused (c := .roll) h ((tested_passed hstands ..).trans (tested_failed (queueFull_iff.mpr hfull) ..))
  · exact exec_placed (c := .roll) (adjusted := false) h hroom ((tested_passed hstands ..).trans
      ((tested_passed (queueFull_eq_false hroom) ..).trans (tested_nil ..))) rfl
  · intro p hp
    simp only [List.mem_cons, List.not_mem_nil, or_false] at hp
    rcases hp with rfl | rfl | rfl
    · exact exec_onQuestion (c := .closeQ) h rfl
    · exact exec_onQuestion (c := .halt) h rfl
    · exact exec_onQuestion (c := .resume) h rfl

/-- Settles O52: OPEN, VERDICT and REVEAL by their tests, with the values that their entries take. -/
theorem openVerdictAndRevealCommands : Obligations.OpenVerdictAndRevealCommands := by
  intro s h
  refine ⟨fun question mode base penalty stake window lead => ?opens, fun target outcome => ?verdicts,
    fun set => ?reveals⟩
  case opens =>
    intro c number duplicate n given used
    have hnumber : clampNumber question.toNat = number := clampNumber_toNat question
    have hused : openValues mode base penalty stake window lead = used := by
      simp only [openValues, rewriteMode, modeChoices_eq, clampChoices, clampPoints, clampStake, clampWindow, clampLead]
      rfl
    have hduplicate : (openWith number s || standsFor .openQ number s) = true ↔ duplicate := by
      simp only [openWith, Bool.or_eq_true, Bool.and_eq_true, decide_eq_true_eq]
      rfl
    have hobey : obey (.openQ question mode base penalty stake window lead) s
        = tested [(decide (s.engine.state = .scoring), .state),
            (openWith number s || standsFor .openQ number s, .duplicate), (queueFull s, .busy)]
          (placing (decide (used ≠ given) || decide (question = 0)) (newEntry s .openQ 0 0 number used) s) s := by
      rw [← hnumber, ← hused]
      rfl
    refine ⟨fun hscoring => ?_, fun hscoring hdup => ?_, fun hscoring hdup hfull => ?_, fun hscoring hdup hroom => ?_⟩
    · exact exec_refused h (hobey.trans (tested_failed (decide_eq_true hscoring) ..))
    · exact exec_refused h (hobey.trans ((tested_passed (decide_eq_false hscoring) ..).trans
        (tested_failed (hduplicate.mpr hdup) ..)))
    · exact exec_refused h (hobey.trans ((tested_passed (decide_eq_false hscoring) ..).trans
        ((tested_passed (Bool.eq_false_iff.mpr (mt hduplicate.mp hdup)) ..).trans
          (tested_failed (queueFull_iff.mpr hfull) ..))))
    · exact exec_placed h hroom (hobey.trans ((tested_passed (decide_eq_false hscoring) ..).trans
        ((tested_passed (Bool.eq_false_iff.mpr (mt hduplicate.mp hdup)) ..).trans
          ((tested_passed (queueFull_eq_false hroom) ..).trans (tested_nil ..))))) (statusOf_eq _ _ (by simp))
  case verdicts =>
    intro c fits floor known
    have hfits : (s.engine.state.isOpen && currentType .buzz s) = true ↔ fits := by
      rw [Bool.and_eq_true, currentType_iff]
      exact ⟨fun ⟨hopen, q, hq, htype⟩ => ⟨q, ⟨hopen, hq⟩, htype⟩, fun ⟨q, ⟨hopen, hq⟩, htype⟩ => ⟨hopen, q, hq, htype⟩⟩
    have hfits' := fun hf : fits => (congrArg not (hfits.mpr hf) :)
    have hfloor := fun hf : floor => (congrArg not (namesFloor_floor.mpr hf) :)
    refine ⟨fun hf => ?_, fun hf hnot => ?_, fun hf hnamed hstands => ?_, fun hf hnamed hstands hfull => ?_,
      fun hf hnamed hstands hroom => ?_⟩
    · exact exec_refused (c := .verdict target outcome) h
        (tested_failed (by rw [Bool.eq_false_iff.mpr (mt hfits.mp hf)]; rfl) ..)
    · exact exec_refused (c := .verdict target outcome) h ((tested_passed (hfits' hf) ..).trans
        (tested_failed (by rw [Bool.eq_false_iff.mpr (mt namesFloor_floor.mp hnot)]; rfl) ..))
    · exact exec_refused (c := .verdict target outcome) h ((tested_passed (hfits' hf) ..).trans
        ((tested_passed (hfloor hnamed) ..).trans (tested_failed hstands ..)))
    · exact exec_refused (c := .verdict target outcome) h ((tested_passed (hfits' hf) ..).trans
        ((tested_passed (hfloor hnamed) ..).trans ((tested_passed hstands ..).trans
          (tested_failed (queueFull_iff.mpr hfull) ..))))
    · refine exec_placed (c := .verdict target outcome) h hroom ((tested_passed (hfits' hf) ..).trans
        ((tested_passed (hfloor hnamed) ..).trans ((tested_passed hstands ..).trans
          ((tested_passed (queueFull_eq_false hroom) ..).trans (tested_nil ..))))) ?_
      rw [statusOf_eq (¬known) _ (by rw [decide_eq_true_eq]; exact usedOutcome_ne outcome), ite_not]
  case reveals =>
    intro c fits
    have hfits : (decide (s.engine.state = .expired) && currentType .poll s) = true ↔ ∃ q, fits q := by
      rw [Bool.and_eq_true, currentType_iff, decide_eq_true_eq]
      exact ⟨fun ⟨hexpired, q, hq, htype⟩ => ⟨q, hexpired, hq, htype⟩,
        fun ⟨q, hexpired, hq, htype⟩ => ⟨hexpired, q, hq, htype⟩⟩
    have hfits' := fun hf : ∃ q, fits q => (congrArg not (hfits.mpr hf) :)
    refine ⟨fun hf => ?_, fun hf hstands => ?_, fun hf hstands hfull => ?_, fun q reduced hf hstands hroom hbits => ?_⟩
    · exact exec_refused (c := .reveal set) h
        (tested_failed (by rw [Bool.eq_false_iff.mpr (mt hfits.mp hf)]; rfl) ..)
    · exact exec_refused (c := .reveal set) h ((tested_passed (hfits' hf) ..).trans (tested_failed hstands ..))
    · exact exec_refused (c := .reveal set) h ((tested_passed (hfits' hf) ..).trans
        ((tested_passed hstands ..).trans (tested_failed (queueFull_iff.mpr hfull) ..)))
    · obtain ⟨-, hq, -⟩ := id hf
      rw [← reducedByte_eq hq hbits]
      refine exec_placed (c := .reveal set) h hroom ((tested_passed (hfits' ⟨q, hf⟩) ..).trans
        ((tested_passed hstands ..).trans ((tested_passed (queueFull_eq_false hroom) ..).trans (tested_nil ..)))) ?_
      rw [statusOf_eq (¬reducedByte set s = set) _ (by simp), ite_not]

end

section
/-! PROOFS. The records of the desk link: their form, their loss, what breaks off inside one, and every command's record
read back (R39, R182 to R184). -/

namespace Sys2Proof.Machine

open Sys2Proof.Safety

variable {s : State} {c : Command} {kind length : Byte}

/-! ### The form of a record (R39, R184) -/

/-- The kind and body length of each of the seventeen commands (R39). -/
def commandForms : List (Nat × Nat) := [(0x01, 0), (0x02, 0), (0x03, 0), (0x04, 1), (0x05, 0), (0x06, 0), (0x07, 1),
  (0x08, 0), (0x10, 1), (0x11, 0), (0x12, 7), (0x13, 2), (0x14, 0), (0x15, 1), (0x16, 0), (0x17, 0), (0x18, 0)]

theorem commandForms_bounded : ∀ form ∈ commandForms, form.1 < 25 ∧ form.2 < 8 := by decide

theorem commandOf_highKind (body : List Byte) (h : 25 ≤ kind.toNat) : commandOf kind body = none := by
  unfold commandOf
  generalize kind.toNat = k at h
  obtain ⟨m, rfl⟩ : ∃ m, k = m + 25 := ⟨k - 25, by omega⟩
  rfl

theorem commandOf_long (a b d e f g i j : Byte) (rest : List Byte) :
    commandOf kind (a :: b :: d :: e :: f :: g :: i :: j :: rest) = none := by
  rcases Nat.lt_or_ge kind.toNat 25 with hlow | hhigh
  · unfold commandOf
    generalize kind.toNat = k at hlow
    interval_cases k <;> rfl
  · exact commandOf_highKind _ hhigh

theorem commandOf_short : ∀ (k : Fin 25) (n : Fin 8), (commandOf (byteOf k.val) (List.replicate n.val 0)).isSome
    = decide ((k.val, n.val) ∈ commandForms) := by
  decide

/-- A kind and a body length are those of a command where its table holds them (R39). -/
theorem commandOf_isSome_iff (kind : Byte) (n : Nat) :
    (commandOf kind (List.replicate n 0)).isSome = true ↔ (kind.toNat, n) ∈ commandForms := by
  rcases Nat.lt_or_ge kind.toNat 25 with hkind | hkind
  · rcases Nat.lt_or_ge n 8 with hn | hn
    · have hshort := commandOf_short ⟨kind.toNat, hkind⟩ ⟨n, hn⟩
      rw [show byteOf kind.toNat = kind from BitVec.eq_of_toNat_eq (byteOf_toNat kind.isLt)] at hshort
      rw [hshort, decide_eq_true_eq]
    · obtain ⟨m, rfl⟩ : ∃ m, n = m + 8 := ⟨n - 8, by omega⟩
      refine iff_of_false ?_ fun hmem => absurd (commandForms_bounded _ hmem).2 (by simp)
      simp only [List.replicate_succ, commandOf_long, Option.isSome_none, Bool.false_eq_true, not_false_iff]
  · refine iff_of_false (by simp [commandOf_highKind _ hkind]) fun hmem => ?_
    exact absurd (commandForms_bounded _ hmem).1 (Nat.not_lt_of_le hkind)

theorem malformed_eq_false (kind length : Byte) :
    malformed kind length = false ↔ (kind.toNat, length.toNat) ∈ commandForms := by
  rw [malformed, Bool.or_eq_false_iff, decide_eq_false_iff_not, Option.isNone_eq_false_iff, commandOf_isSome_iff]
  refine and_iff_right_of_imp fun hmem => ?_
  have hshort := (commandForms_bounded _ hmem).2
  simp only [Config.longestRecord]
  omega

/-- The record of a command is that command (R39). -/
theorem commandOf_record (c : Command) : commandOf c.code c.body = some c := by
  cases c <;> rfl

/-! ### Records lost (R183) -/

theorem recordDone_lost (kind : Byte) (c : Option Command) (h : 2 ≤ s.link.replies.length) :
    recordDone kind c s = loseRecord s := if_pos (by simpa [slotsHeld, Config.inputSlots] using h)

theorem exec_overrun (c : Command) (hheld : s.held = false) (h : 2 ≤ s.link.replies.length) :
    event (commandEffect c) s = .next (settle (loseRecord s)) :=
  event_next hheld (effect := commandEffect c) (congrArg some (recordDone_lost _ _ h))

/-! ### Characters (R182) -/

theorem uartChar_bits (b : Byte) : (uartChar b).getLsbD 0 = false
    ∧ (∀ i < 8, (uartChar b).getLsbD (i + 1) = b.getLsbD i) ∧ (uartChar b).getLsbD 9 = true := by
  refine ⟨?_, fun i hi => ?_, ?_⟩ <;> simp only [uartChar, BitVec.getLsbD_append]
  · simp
  · simp [hi]
  · simp

theorem uartRead_bits (c : UartChar) (i : Nat) (hi : i < 8) : (uartRead c).value.getLsbD i = c.getLsbD (i + 1) := by
  simp [uartRead, hi, Nat.add_comm]

/-- A byte is read as it was sent (R182). -/
theorem uartRead_uartChar (b : Byte) : uartRead (uartChar b) = { value := b, framing := false } := by
  obtain ⟨-, hbits, hstop⟩ := uartChar_bits b
  have hvalue : (uartRead (uartChar b)).value = b := BitVec.eq_of_getLsbD_eq fun i hi =>
    (uartRead_bits _ i hi).trans (hbits i hi)
  have hframing : (uartRead (uartChar b)).framing = false := by simp [uartRead, hstop]
  exact congr (congrArg LinkByte.mk hvalue) hframing

/-! ### The record receiver (R182) -/

/-- A byte as it arrives. -/
def arrived (b : Byte) : LinkByte := uartRead (uartChar b)

theorem arrived_eq (b : Byte) : arrived b = { value := b, framing := false } := uartRead_uartChar b

theorem rxStep_lead : rxStep .hunt (arrived 0xA5) = (.kind, none) := by
  rw [arrived_eq]
  rfl

theorem rxStep_noise {b : Byte} (h : b ≠ 0xA5) : rxStep .hunt (arrived b) = (.hunt, none) := by
  rw [arrived_eq, rxStep, if_neg fun hlead => h hlead.1]

theorem rxStep_kind (b : Byte) : rxStep .kind (arrived b) = (.length b, none) := by
  rw [arrived_eq]
  rfl

theorem rxStep_noBody (kind : Byte) : rxStep (.length kind) (arrived 0) = (.hunt, some (kind, commandOf kind [])) := by
  rw [arrived_eq]
  rfl

theorem rxStep_length (kind : Byte) (hsome : 0 < length.toNat) (hlong : length.toNat ≤ 80) :
    rxStep (.length kind) (arrived length) = (.body kind length [], none) := by
  rw [arrived_eq, rxStep, if_neg, if_neg (Nat.not_lt_of_le hlong)]
  rintro rfl
  exact absurd hsome (by decide)

theorem rxStep_more {got : List Byte} (b : Byte) (h : got.length + 1 < length.toNat) :
    rxStep (.body kind length got) (arrived b) = (.body kind length (got ++ [b]), none) := by
  rw [arrived_eq]
  exact if_neg (by simpa using h)

theorem rxStep_last {got : List Byte} (b : Byte) (h : length.toNat = got.length + 1) :
    rxStep (.body kind length got) (arrived b) = (.hunt, some (kind, commandOf kind (got ++ [b]))) := by
  rw [arrived_eq]
  exact if_pos (by simp [h])

theorem recordProgress_cons (rx : RecordRx) (b : LinkByte) (rest : List LinkByte) : recordProgress rx (b :: rest)
    = if (rxStep rx b).2 = none then recordProgress (rxStep rx b).1 rest else none := by
  rw [recordProgress]
  obtain ⟨next, done⟩ := rxStep rx b
  cases done <;> simp

theorem recordProgress_step {rx next : RecordRx} {b : LinkByte} (h : rxStep rx b = (next, none)) (rest : List LinkByte) :
    recordProgress rx (b :: rest) = recordProgress next rest := by
  rw [recordProgress_cons, h, if_pos rfl]

theorem recordProgress_noise {noise : List Byte} (h : ∀ b ∈ noise, b ≠ 0xA5) (rest : List LinkByte) :
    recordProgress .hunt (noise.map arrived ++ rest) = recordProgress .hunt rest := by
  induction noise with
  | nil => rfl
  | cons b noise ih =>
    rw [List.map_cons, List.cons_append, recordProgress_step (rxStep_noise (h b (by simp))),
      ih fun x hx => h x (by simp [hx])]

theorem recordProgress_body (l : List Byte) : ∀ got : List Byte, got.length + l.length < length.toNat →
    recordProgress (.body kind length got) (l.map arrived) = some (.body kind length (got ++ l)) := by
  induction l with
  | nil => intro got _; simp [recordProgress]
  | cons b l ih =>
    intro got h
    rw [List.length_cons] at h
    rw [List.map_cons, recordProgress_step (rxStep_more b (by omega)), ih _ (by simp; omega)]
    simp

/-- The receiver after the lead byte and the first `n` bytes of a record (R182). -/
theorem recordProgress_inside {body : List Byte} (hbody : body.length < length.toNat) (hlong : length.toNat ≤ 80)
    (n : Nat) : ∃ rx, rx ≠ .hunt
      ∧ recordProgress .kind (((kind :: length :: body).take n).map arrived) = some rx := by
  match n with
  | 0 => exact ⟨.kind, by simp, rfl⟩
  | 1 => exact ⟨.length kind, by simp, recordProgress_step (rxStep_kind kind) []⟩
  | m + 2 =>
    refine ⟨.body kind length (body.take m), by simp, ?_⟩
    rw [List.take_succ_cons, List.take_succ_cons, List.map_cons, List.map_cons,
      recordProgress_step (rxStep_kind kind), recordProgress_step (rxStep_length kind (by omega) hlong),
      recordProgress_body _ _ (by simp; omega), List.nil_append]

theorem endsInsideRecord_of {l : List LinkByte} {rx : RecordRx} (h : recordProgress .hunt l = some rx)
    (hrx : rx ≠ .hunt) : endsInsideRecord l = true := by
  simp only [endsInsideRecord, h]
  exact decide_eq_true hrx

theorem endsInsideRecord_progress {l : List LinkByte} (h : endsInsideRecord l = true) :
    ∃ rx, recordProgress .hunt l = some rx := by
  unfold endsInsideRecord at h
  split at h
  · next rx hrx => exact ⟨rx, hrx⟩
  · cases h

/-- Bytes that complete no record move the record receiver alone (R182). -/
theorem recvBytes_progress (l : List LinkByte) : ∀ (s : State) (rx : RecordRx),
    recordProgress s.link.rx l = some rx → l.foldl recvByte s = setRecordRx rx s := by
  induction l with
  | nil =>
    intro s rx h
    rw [recordProgress, Option.some.injEq] at h
    subst h
    rfl
  | cons b l ih =>
    intro s rx h
    rw [recordProgress_cons] at h
    split at h
    · next hnone =>
      have hmoved : recvByte s b = setRecordRx (rxStep s.link.rx b).1 s := by
        simp only [recvByte, hnone]
      rw [List.foldl_cons, hmoved, ih _ rx h]
      rfl
    · cases h

/-- Each command's record completes at its last byte, and not before (R39, R182). -/
theorem command_readBack (c : Command) : ∃ (front : List LinkByte) (last : LinkByte) (rx : RecordRx),
    ([0xA5, c.code, byteOf c.body.length] ++ c.body).map (fun b => uartRead (uartChar b)) = front ++ [last]
    ∧ recordProgress .hunt front = some rx ∧ rxStep rx last = (.hunt, some (c.code, some c)) := by
  have hread := commandOf_record c
  have hshort : c.body.length ≤ 7 := by cases c <;> simp [Command.body]
  rcases List.eq_nil_or_concat c.body with hnone | ⟨init, last, hbody⟩
  · rw [hnone] at hread ⊢
    refine ⟨[arrived 0xA5, arrived c.code], arrived 0, .length c.code, rfl, ?_, ?_⟩
    · rw [recordProgress_step rxStep_lead, recordProgress_step (rxStep_kind _)]
      rfl
    · rw [rxStep_noBody, hread]
  · rw [List.concat_eq_append] at hbody
    have hlength : (byteOf c.body.length).toNat = init.length + 1 := by
      rw [byteOf_toNat (by omega), hbody, List.length_append]
      rfl
    have hbounded : init.length + 1 ≤ 7 := by simpa [hbody] using hshort
    refine ⟨([0xA5, c.code, byteOf c.body.length] ++ init).map arrived, arrived last,
      .body c.code (byteOf c.body.length) init, ?_, ?_, ?_⟩
    · generalize byteOf c.body.length = length
      rw [hbody, ← List.append_assoc, List.map_append]
      rfl
    · simp only [List.cons_append, List.nil_append, List.map_cons]
      rw [recordProgress_step rxStep_lead, recordProgress_step (rxStep_kind _),
        recordProgress_step (rxStep_length _ (by omega) (by omega)), recordProgress_body _ _ (by
          rw [List.length_nil, hlength]
          omega), List.nil_append]
    · rw [rxStep_last last hlength, ← hbody, hread]

end Sys2Proof.Machine
end

section

open Sys2Proof Sys2Proof.Machine Sys2Proof.Safety

/-- Settles O53: the form tests, the loss of a record, and what breaks off, is sent or is freed. -/
theorem recordsRefusedLostAbandonedAndSent : Obligations.RecordsRefusedLostAbandonedAndSent := by
  refine ⟨malformed_eq_false, ⟨fun s kind length h hmal => ?malformed, fun s k a b c d e f g h hrole p hp => ?desk,
    fun s a b c d e f g kind length hheld hfull => ⟨fun p hp => ?lost, fun hmal => ?lostMalformed⟩⟩,
    ⟨fun noise body kind length hnoise hbody hlong n => ?inside, fun s chars hheld hhunt hinside => ?abandon,
      fun s bytes hheld htx => ?reply, fun s bytes hheld htx => ?notice⟩⟩
  case malformed =>
    refine event_next h.1 (effect := malformedEffect kind length) (occasion_eq_some.mpr ⟨hmal, ?_⟩)
    exact recordDone_judged kind none h
  case desk =>
    have hrefused : ∀ c : Command, c.presenterOnly = true →
        event (commandEffect c) s = .next (settle (withReply (c.code + 0x80) (.refused .notPresenter) [] s)) :=
      fun c hc => exec_ruled h (rule_atDesk hrole hc)
    simp only [List.mem_cons, List.not_mem_nil, or_false] at hp
    rcases hp with rfl | rfl | rfl | rfl | rfl | rfl | rfl | rfl | rfl
    · exact hrefused (.startShow a) rfl
    · exact hrefused .roll rfl
    · exact hrefused (.openQ a b c d e f g) rfl
    · exact hrefused (.verdict a b) rfl
    · exact hrefused .closeQ rfl
    · exact hrefused (.reveal a) rfl
    · exact hrefused .halt rfl
    · exact hrefused .resume rfl
    · exact hrefused .clearLine rfl
  case lost =>
    have hlost := fun c : Command => exec_overrun c hheld hfull
    have hrecord : exec .recordLost s = .next (settle (loseRecord s)) :=
      event_next hheld (effect := lostRecordEffect)
        (occasion_eq_some.mpr ⟨by simpa [slotsHeld, Config.inputSlots] using hfull, rfl⟩)
    simp only [List.mem_cons, List.not_mem_nil, or_false] at hp
    rcases hp with rfl | rfl | rfl | rfl | rfl | rfl | rfl | rfl | rfl | rfl | rfl | rfl | rfl | rfl | rfl | rfl | rfl
      | rfl
    · exact hlost .status
    · exact hlost .standings
    · exact hlost .floor
    · exact hlost (.seat a)
    · exact hlost .votes
    · exact hlost .roster
    · exact hlost (.notices a)
    · exact hlost .catchUp
    · exact hlost (.startShow a)
    · exact hlost .roll
    · exact hlost (.openQ a b c d e f g)
    · exact hlost (.verdict a b)
    · exact hlost .closeQ
    · exact hlost (.reveal a)
    · exact hlost .halt
    · exact hlost .resume
    · exact hlost .clearLine
    · exact hrecord
  case lostMalformed =>
    exact event_next hheld (effect := malformedEffect kind length)
      (occasion_eq_some.mpr ⟨hmal, recordDone_lost kind none hfull⟩)
  case inside =>
    obtain ⟨rx, hrx, hprogress⟩ := recordProgress_inside (kind := kind) hbody hlong n
    have htake : (noise ++ [0xA5, kind, length] ++ body).take (noise.length + 1 + n)
        = noise ++ 0xA5 :: (kind :: length :: body).take n := by
      rw [List.append_assoc, Nat.add_assoc, List.take_length_add_append, Nat.add_comm 1 n]
      rfl
    refine endsInsideRecord_of (rx := rx) ?_ hrx
    rw [htake]
    refine (congrArg _ (List.map_append ..)).trans ((recordProgress_noise hnoise _).trans ?_)
    exact (recordProgress_step rxStep_lead _).trans hprogress
  case abandon =>
    obtain ⟨rx, hprogress⟩ := endsInsideRecord_progress hinside
    refine event_next hheld (effect := abandonEffect chars) ?_
    have hhunting : setRecordRx .hunt (setRecordRx rx s) = s := by
      rw [show setRecordRx .hunt (setRecordRx rx s) = setRecordRx s.link.rx s by rw [hhunt]; rfl]
      rfl
    rw [abandonEffect, recvBytes_progress _ s rx (by rw [hhunt, hprogress]), hhunting]
  case reply =>
    refine event_next hheld (effect := replySentEffect) ?_
    simp only [replySentEffect, htx]
  case notice =>
    refine event_next hheld (effect := noticeSentEffect) ?_
    simp only [noticeSentEffect, htx]

/-- Settles O54: characters both ways, and each command's record read back at its last byte. -/
theorem commandRecordsReadBack : Obligations.CommandRecordsReadBack := by
  refine ⟨fun b => ?_, fun c => ⟨uartRead_bits c, by simp [uartRead]⟩,
    fun rx b rest => ⟨rfl, recordProgress_cons rx b rest⟩, command_readBack⟩
  · obtain ⟨hstart, hbits, hstop⟩ := uartChar_bits b
    exact ⟨hstart, hbits, hstop, uartRead_uartChar b⟩

end
